-- ==== Sys2Proof/Word.lean ====
section
/-! DEFINITION. The word types of the block (rule R11: bit 0 is the least significant bit). -/

namespace Sys2Proof

/-- A byte of VRAM or an 8-bit colour channel. -/
abbrev Byte := BitVec 8

/-- A 16-bit texel or a packed RGB565 pixel. -/
abbrev Half := BitVec 16

/-- A 32-bit word: a display-list word, a register, a tag, or the bit pattern of a binary32 value. -/
abbrev Word := BitVec 32

end Sys2Proof
end

