-- ==== Sys2Proof/Syntax.lean ====
section
/-! DEFINITION. The instructions: one constructor per row of spec/opcode_table.json, and the formats a 32-bit
word is read in. A word names a row only together with its format (rule R3: region-array and object-list
entries are the block's instructions, the parameter words are their operands). -/

namespace Sys2Proof

/-- The seventeen formats of the opcode table: what a fetched word is read as. The pass driver knows the format
of every word it fetches (30_encoding.md, section 1). -/
inductive Format where
  | regionControl
  | listPointer
  | objectList
  | depthMode
  | cullMode
  | volumeMode
  | srcInstr
  | dstInstr
  | fogCtrl
  | filterMode
  | shadInstr
  | pixelFmt
  | vqComp
  | scanOrder
  | mipMapped
  | palRamCtrl
  | fbPackmode
deriving DecidableEq, Repr

/-- The instructions. Field values are the unsigned numbers the spec reads out of the word (rule R11); the widths
are checked by `Instr.wellFormed`. Bits the spec calls ignored are no fields. -/
inductive Instr where
  /-- REGION: control word of a region-array entry (R121, R240). -/
  | region (tilex tiley : Nat) (noWriteout preSort zKeep lastRegion : Bool)
  /-- PTR: list pointer with `empty = 0` (R122). -/
  | ptr (ptrInWords : Nat)
  /-- PTR_EMPTY: list pointer with `empty = 1` (R122). -/
  | ptrEmpty (ptrInWords : Nat)
  /-- STRIP: triangle strip (R126, R250). -/
  | strip (offs skip : Nat) (shadow : Bool) (mask : Nat)
  /-- TARRAY: triangle array of `prims + 1` triangles (R127, R255). -/
  | tarray (offs skip : Nat) (shadow : Bool) (prims : Nat)
  /-- QARRAY: quad array of `prims + 1` quads (R128, R257). -/
  | qarray (offs skip : Nat) (shadow : Bool) (prims : Nat)
  /-- RESERVED_110: object-list type 0b110 (R130, R249); `low` is the rest of the word, which the report carries. -/
  | reserved110 (low : Nat)
  /-- LINK: link to the next block of the object list (R129, R247). -/
  | link (nextInWords : Nat)
  /-- LINK_END: link with `end_of_list = 1` (R129, R247). -/
  | linkEnd (nextInWords : Nat)
  /-- DEPTH_NEVER (R147 code 0). -/
  | depthNever
  /-- DEPTH_LESS (R147 code 1). -/
  | depthLess
  /-- DEPTH_EQUAL (R147 code 2). -/
  | depthEqual
  /-- DEPTH_LESSEQUAL (R147 code 3). -/
  | depthLessequal
  /-- DEPTH_GREATER (R147 code 4). -/
  | depthGreater
  /-- DEPTH_NOTEQUAL (R147 code 5). -/
  | depthNotequal
  /-- DEPTH_GREATEREQUAL (R147 code 6). -/
  | depthGreaterequal
  /-- DEPTH_ALWAYS (R147 code 7). -/
  | depthAlways
  /-- CULL_NONE (R148 code 0). -/
  | cullNone
  /-- CULL_SMALL (R148 code 1). -/
  | cullSmall
  /-- CULL_NEGATIVE (R148 code 2). -/
  | cullNegative
  /-- CULL_POSITIVE (R148 code 3). -/
  | cullPositive
  /-- VOL_NONE (R354 code 0); `cull` is the CullMode of the same modifier word, which rule R305 acts on. -/
  | volNone (cull : Nat)
  /-- VOL_OR (R352); `cull` as for `volNone`. -/
  | volOr (cull : Nat)
  /-- VOL_AND (R353); `cull` as for `volNone`. -/
  | volAnd (cull : Nat)
  /-- VOL_RESERVED_3 (R354). -/
  | volReserved3
  /-- VOL_RESERVED_4 (R354). -/
  | volReserved4
  /-- VOL_RESERVED_5 (R354). -/
  | volReserved5
  /-- VOL_RESERVED_6 (R354). -/
  | volReserved6
  /-- VOL_RESERVED_7 (R354). -/
  | volReserved7
  /-- SRC_ZERO (R460 code 0). -/
  | srcZero
  /-- SRC_ONE (R460 code 1). -/
  | srcOne
  /-- SRC_OTHER (R460 code 2). -/
  | srcOther
  /-- SRC_INVOTHER (R460 code 3). -/
  | srcInvother
  /-- SRC_SRCALPHA (R460 code 4). -/
  | srcSrcalpha
  /-- SRC_INVSRCALPHA (R460 code 5). -/
  | srcInvsrcalpha
  /-- SRC_DSTALPHA (R460 code 6). -/
  | srcDstalpha
  /-- SRC_INVDSTALPHA (R460 code 7). -/
  | srcInvdstalpha
  /-- DST_ZERO (R460 code 0). -/
  | dstZero
  /-- DST_ONE (R460 code 1). -/
  | dstOne
  /-- DST_OTHER (R460 code 2). -/
  | dstOther
  /-- DST_INVOTHER (R460 code 3). -/
  | dstInvother
  /-- DST_SRCALPHA (R460 code 4). -/
  | dstSrcalpha
  /-- DST_INVSRCALPHA (R460 code 5). -/
  | dstInvsrcalpha
  /-- DST_DSTALPHA (R460 code 6). -/
  | dstDstalpha
  /-- DST_INVDSTALPHA (R460 code 7). -/
  | dstInvdstalpha
  /-- FOG_TABLE (R445 code 0). -/
  | fogTable
  /-- FOG_VERTEX (R445 code 1). -/
  | fogVertex
  /-- FOG_NONE (R445 code 2). -/
  | fogNone
  /-- FOG_TABLEALPHA (R445 code 3). -/
  | fogTablealpha
  /-- FILTER_POINT (R154, R430). -/
  | filterPoint
  /-- FILTER_BILINEAR_1 (R154, R431). -/
  | filterBilinear1
  /-- FILTER_BILINEAR_2 (R154, R431). -/
  | filterBilinear2
  /-- FILTER_BILINEAR_3 (R154, R431). -/
  | filterBilinear3
  /-- SHAD_DECAL (R440 code 0). -/
  | shadDecal
  /-- SHAD_MODULATE (R440 code 1). -/
  | shadModulate
  /-- SHAD_DECALALPHA (R440 code 2). -/
  | shadDecalalpha
  /-- SHAD_MODULATEALPHA (R440 code 3). -/
  | shadModulatealpha
  /-- FMT_ARGB1555 (R421); `addr` is TextureAddr, the texture base in units of 8 bytes (R160). -/
  | fmtArgb1555 (addr : Nat)
  /-- FMT_RGB565 (R422). -/
  | fmtRgb565 (addr : Nat)
  /-- FMT_ARGB4444 (R423). -/
  | fmtArgb4444 (addr : Nat)
  /-- FMT_YUV422 (R425). -/
  | fmtYuv422 (addr : Nat)
  /-- FMT_BUMP (R427). -/
  | fmtBump (addr : Nat)
  /-- FMT_PAL4 (R426); `sel` is PalSelector, bits 26:21 of the TCW (R160). -/
  | fmtPal4 (sel addr : Nat)
  /-- FMT_PAL8 (R426). -/
  | fmtPal8 (sel addr : Nat)
  /-- FMT_RESERVED7 (R415). -/
  | fmtReserved7 (addr : Nat)
  /-- TCW_VQ: `VQ_Comp = 1` (R415). -/
  | tcwVq
  /-- TCW_TWIDDLED: `ScanOrder = 0` (R414). -/
  | tcwTwiddled
  /-- TCW_STRIDE_SCAN: `ScanOrder = 1`; `strideSel` is StrideSel, bit 25 (R160, R414). -/
  | tcwStrideScan (strideSel : Bool)
  /-- TCW_MIPMAPPED: `MipMapped = 1` (R411). -/
  | tcwMipmapped
  /-- PAL_ARGB1555 (R426 format 0). -/
  | palArgb1555
  /-- PAL_RGB565 (R426 format 1). -/
  | palRgb565
  /-- PAL_ARGB4444 (R426 format 2). -/
  | palArgb4444
  /-- PAL_ARGB8888 (R426 format 3). -/
  | palArgb8888
  /-- PACK_0_UNSUPPORTED (R601). -/
  | pack0Unsupported
  /-- PACK_1_565 (R502). -/
  | pack1Rgb565
  /-- PACK_2_UNSUPPORTED (R601). -/
  | pack2Unsupported
  /-- PACK_3_UNSUPPORTED (R601). -/
  | pack3Unsupported
  /-- PACK_4_UNSUPPORTED (R601). -/
  | pack4Unsupported
  /-- PACK_5_UNSUPPORTED (R601). -/
  | pack5Unsupported
  /-- PACK_6_8888 (R505). -/
  | pack6Argb8888
  /-- PACK_7_UNSUPPORTED (R601). -/
  | pack7Unsupported
deriving DecidableEq, Repr

end Sys2Proof
end

