-- ==== Sys2Proof/WellFormed.lean ====
section
/-! DEFINITION. Which terms of `Instr` are instructions: every field fits its width in the encoding
(30_encoding.md rules R121, R122, R126 to R130, R146, R160). -/

namespace Sys2Proof

/-- Every field of the instruction fits the field of its word. -/
def Instr.wellFormed : Instr → Bool
  | .region tilex tiley _ _ _ _ => tilex < 2 ^ 6 && tiley < 2 ^ 6
  | .ptr p => p < 2 ^ 22
  | .ptrEmpty p => p < 2 ^ 22
  | .strip offs skip _ mask => offs < 2 ^ 21 && skip < 2 ^ 3 && mask < 2 ^ 6
  | .tarray offs skip _ prims => offs < 2 ^ 21 && skip < 2 ^ 3 && prims < 2 ^ 4
  | .qarray offs skip _ prims => offs < 2 ^ 21 && skip < 2 ^ 3 && prims < 2 ^ 4
  | .reserved110 low => low < 2 ^ 29
  | .link n => n < 2 ^ 22
  | .linkEnd n => n < 2 ^ 22
  | .volNone c => c < 2 ^ 2
  | .volOr c => c < 2 ^ 2
  | .volAnd c => c < 2 ^ 2
  | .fmtArgb1555 a => a < 2 ^ 21
  | .fmtRgb565 a => a < 2 ^ 21
  | .fmtArgb4444 a => a < 2 ^ 21
  | .fmtYuv422 a => a < 2 ^ 21
  | .fmtBump a => a < 2 ^ 21
  | .fmtPal4 sel a => sel < 2 ^ 6 && a < 2 ^ 21
  | .fmtPal8 sel a => sel < 2 ^ 6 && a < 2 ^ 21
  | .fmtReserved7 a => a < 2 ^ 21
  | .depthNever | .depthLess | .depthEqual | .depthLessequal => true
  | .depthGreater | .depthNotequal | .depthGreaterequal | .depthAlways => true
  | .cullNone | .cullSmall | .cullNegative | .cullPositive => true
  | .volReserved3 | .volReserved4 | .volReserved5 | .volReserved6 | .volReserved7 => true
  | .srcZero | .srcOne | .srcOther | .srcInvother => true
  | .srcSrcalpha | .srcInvsrcalpha | .srcDstalpha | .srcInvdstalpha => true
  | .dstZero | .dstOne | .dstOther | .dstInvother => true
  | .dstSrcalpha | .dstInvsrcalpha | .dstDstalpha | .dstInvdstalpha => true
  | .fogTable | .fogVertex | .fogNone | .fogTablealpha => true
  | .filterPoint | .filterBilinear1 | .filterBilinear2 | .filterBilinear3 => true
  | .shadDecal | .shadModulate | .shadDecalalpha | .shadModulatealpha => true
  | .tcwVq | .tcwTwiddled | .tcwStrideScan _ | .tcwMipmapped => true
  | .palArgb1555 | .palRgb565 | .palArgb4444 | .palArgb8888 => true
  | .pack0Unsupported | .pack1Rgb565 | .pack2Unsupported | .pack3Unsupported => true
  | .pack4Unsupported | .pack5Unsupported | .pack6Argb8888 | .pack7Unsupported => true

/-- The format the instruction's word is read in (the table's "format" column). -/
def Instr.format : Instr → Format
  | .region _ _ _ _ _ _ => .regionControl
  | .ptr _ | .ptrEmpty _ => .listPointer
  | .strip _ _ _ _ | .tarray _ _ _ _ | .qarray _ _ _ _ => .objectList
  | .reserved110 _ | .link _ | .linkEnd _ => .objectList
  | .depthNever | .depthLess | .depthEqual | .depthLessequal => .depthMode
  | .depthGreater | .depthNotequal | .depthGreaterequal | .depthAlways => .depthMode
  | .cullNone | .cullSmall | .cullNegative | .cullPositive => .cullMode
  | .volNone _ | .volOr _ | .volAnd _ => .volumeMode
  | .volReserved3 | .volReserved4 | .volReserved5 | .volReserved6 | .volReserved7 => .volumeMode
  | .srcZero | .srcOne | .srcOther | .srcInvother => .srcInstr
  | .srcSrcalpha | .srcInvsrcalpha | .srcDstalpha | .srcInvdstalpha => .srcInstr
  | .dstZero | .dstOne | .dstOther | .dstInvother => .dstInstr
  | .dstSrcalpha | .dstInvsrcalpha | .dstDstalpha | .dstInvdstalpha => .dstInstr
  | .fogTable | .fogVertex | .fogNone | .fogTablealpha => .fogCtrl
  | .filterPoint | .filterBilinear1 | .filterBilinear2 | .filterBilinear3 => .filterMode
  | .shadDecal | .shadModulate | .shadDecalalpha | .shadModulatealpha => .shadInstr
  | .fmtArgb1555 _ | .fmtRgb565 _ | .fmtArgb4444 _ | .fmtYuv422 _ => .pixelFmt
  | .fmtBump _ | .fmtPal4 _ _ | .fmtPal8 _ _ | .fmtReserved7 _ => .pixelFmt
  | .tcwVq => .vqComp
  | .tcwTwiddled | .tcwStrideScan _ => .scanOrder
  | .tcwMipmapped => .mipMapped
  | .palArgb1555 | .palRgb565 | .palArgb4444 | .palArgb8888 => .palRamCtrl
  | .pack0Unsupported | .pack1Rgb565 | .pack2Unsupported | .pack3Unsupported => .fbPackmode
  | .pack4Unsupported | .pack5Unsupported | .pack6Argb8888 | .pack7Unsupported => .fbPackmode

end Sys2Proof
end

