-- ==== Sys2Proof/Decode.lean ====
section
/-! DEFINITION. Decoding a word in its format, and the encoder (30_encoding.md). Every code of every field of the
table decodes; the only rejections are a TCW whose VQ_Comp or MipMapped bit is 0, for which the table has no row,
and too few bytes. -/

namespace Sys2Proof

/-- The field `w[hi:lo]` as an unsigned number (rule R11). -/
def bits (w : Word) (hi lo : Nat) : Nat := w.toNat / 2 ^ lo % 2 ^ (hi + 1 - lo)

/-- Bit `i` of `w` (rule R11). -/
def bit (w : Word) (i : Nat) : Bool := w.toNat / 2 ^ i % 2 == 1

/-- The 32-bit word of four bytes, the first the least significant (rule R99). -/
def wordOfBytes (b0 b1 b2 b3 : Byte) : Word :=
  BitVec.ofNat 32 (b0.toNat + 2 ^ 8 * b1.toNat + 2 ^ 16 * b2.toNat + 2 ^ 24 * b3.toNat)

/-- Byte `k` of a word, byte 0 the least significant (rule R99). -/
def byteOfWord (w : Word) (k : Nat) : Byte := BitVec.ofNat 8 (w.toNat / 2 ^ (8 * k))

/-- The four bytes of a word as they lie in VRAM (rule R99). -/
def bytesOfWord (w : Word) : List Byte := [byteOfWord w 0, byteOfWord w 1, byteOfWord w 2, byteOfWord w 3]

/-- Why a word or a byte string is no instruction of its format. -/
inductive DecodeError where
  /-- Fewer than four bytes were given. -/
  | truncated
  /-- A TCW with `VQ_Comp = 0`: the table's only VQ_Comp row is TCW_VQ. -/
  | vqCompClear
  /-- A TCW with `MipMapped = 0`: the table's only MipMapped row is TCW_MIPMAPPED. -/
  | mipMappedClear
deriving DecidableEq, Repr

/-- REGION (R121); bits 1:0 and 27:14 are ignored. -/
def decodeRegion (w : Word) : Instr :=
  .region (bits w 7 2) (bits w 13 8) (bit w 28) (bit w 29) (bit w 30) (bit w 31)

/-- PTR and PTR_EMPTY (R122); bits 1:0 and 30:24 are ignored. -/
def decodePointer (w : Word) : Instr :=
  if bit w 31 then .ptrEmpty (bits w 23 2) else .ptr (bits w 23 2)

/-- An object-list entry (R125 to R130). -/
def decodeObject (w : Word) : Instr :=
  match bits w 31 29 with
  | 4 => .tarray (bits w 20 0) (bits w 23 21) (bit w 24) (bits w 28 25)
  | 5 => .qarray (bits w 20 0) (bits w 23 21) (bit w 24) (bits w 28 25)
  | 6 => .reserved110 (bits w 28 0)
  | 7 => if bit w 28 then .linkEnd (bits w 23 2) else .link (bits w 23 2)
  | _ => .strip (bits w 20 0) (bits w 23 21) (bit w 24) (bits w 30 25)

/-- DepthMode of an ISP word (R145, R147). -/
def decodeDepth (w : Word) : Instr :=
  match bits w 31 29 with
  | 0 => .depthNever
  | 1 => .depthLess
  | 2 => .depthEqual
  | 3 => .depthLessequal
  | 4 => .depthGreater
  | 5 => .depthNotequal
  | 6 => .depthGreaterequal
  | _ => .depthAlways

/-- CullMode of an ISP word or a modifier word (R145, R146, R148). -/
def decodeCull (w : Word) : Instr :=
  match bits w 28 27 with
  | 0 => .cullNone
  | 1 => .cullSmall
  | 2 => .cullNegative
  | _ => .cullPositive

/-- VolumeMode of a modifier word (R146, R354). -/
def decodeVolume (w : Word) : Instr :=
  match bits w 31 29 with
  | 0 => .volNone (bits w 28 27)
  | 1 => .volOr (bits w 28 27)
  | 2 => .volAnd (bits w 28 27)
  | 3 => .volReserved3
  | 4 => .volReserved4
  | 5 => .volReserved5
  | 6 => .volReserved6
  | _ => .volReserved7

/-- SrcInstr of a TSP word (R150, R151). -/
def decodeSrc (w : Word) : Instr :=
  match bits w 31 29 with
  | 0 => .srcZero
  | 1 => .srcOne
  | 2 => .srcOther
  | 3 => .srcInvother
  | 4 => .srcSrcalpha
  | 5 => .srcInvsrcalpha
  | 6 => .srcDstalpha
  | _ => .srcInvdstalpha

/-- DstInstr of a TSP word (R150, R151). -/
def decodeDst (w : Word) : Instr :=
  match bits w 28 26 with
  | 0 => .dstZero
  | 1 => .dstOne
  | 2 => .dstOther
  | 3 => .dstInvother
  | 4 => .dstSrcalpha
  | 5 => .dstInvsrcalpha
  | 6 => .dstDstalpha
  | _ => .dstInvdstalpha

/-- FogCtrl of a TSP word (R150, R152). -/
def decodeFog (w : Word) : Instr :=
  match bits w 23 22 with
  | 0 => .fogTable
  | 1 => .fogVertex
  | 2 => .fogNone
  | _ => .fogTablealpha

/-- FilterMode of a TSP word (R150, R154). -/
def decodeFilter (w : Word) : Instr :=
  match bits w 14 13 with
  | 0 => .filterPoint
  | 1 => .filterBilinear1
  | 2 => .filterBilinear2
  | _ => .filterBilinear3

/-- ShadInstr of a TSP word (R150, R153). -/
def decodeShad (w : Word) : Instr :=
  match bits w 7 6 with
  | 0 => .shadDecal
  | 1 => .shadModulate
  | 2 => .shadDecalalpha
  | _ => .shadModulatealpha

/-- PixelFmt of a TCW, with the fields its texel fetch uses (R160, R161). -/
def decodePixelFmt (w : Word) : Instr :=
  match bits w 29 27 with
  | 0 => .fmtArgb1555 (bits w 20 0)
  | 1 => .fmtRgb565 (bits w 20 0)
  | 2 => .fmtArgb4444 (bits w 20 0)
  | 3 => .fmtYuv422 (bits w 20 0)
  | 4 => .fmtBump (bits w 20 0)
  | 5 => .fmtPal4 (bits w 26 21) (bits w 20 0)
  | 6 => .fmtPal8 (bits w 26 21) (bits w 20 0)
  | _ => .fmtReserved7 (bits w 20 0)

/-- ScanOrder of a TCW (R160, R414). -/
def decodeScan (w : Word) : Instr :=
  if bit w 26 then .tcwStrideScan (bit w 25) else .tcwTwiddled

/-- The palette entry format of `PAL_RAM_CTRL` (R426). -/
def decodePalette (w : Word) : Instr :=
  match bits w 1 0 with
  | 0 => .palArgb1555
  | 1 => .palRgb565
  | 2 => .palArgb4444
  | _ => .palArgb8888

/-- The pack mode of `FB_W_CTRL` (R37, R601). -/
def decodePack (w : Word) : Instr :=
  match bits w 2 0 with
  | 0 => .pack0Unsupported
  | 1 => .pack1Rgb565
  | 2 => .pack2Unsupported
  | 3 => .pack3Unsupported
  | 4 => .pack4Unsupported
  | 5 => .pack5Unsupported
  | 6 => .pack6Argb8888
  | _ => .pack7Unsupported

/-- The instruction a word is in a format. -/
def decode (f : Format) (w : Word) : Except DecodeError Instr :=
  match f with
  | .regionControl => .ok (decodeRegion w)
  | .listPointer => .ok (decodePointer w)
  | .objectList => .ok (decodeObject w)
  | .depthMode => .ok (decodeDepth w)
  | .cullMode => .ok (decodeCull w)
  | .volumeMode => .ok (decodeVolume w)
  | .srcInstr => .ok (decodeSrc w)
  | .dstInstr => .ok (decodeDst w)
  | .fogCtrl => .ok (decodeFog w)
  | .filterMode => .ok (decodeFilter w)
  | .shadInstr => .ok (decodeShad w)
  | .pixelFmt => .ok (decodePixelFmt w)
  | .vqComp => if bit w 30 then .ok .tcwVq else .error .vqCompClear
  | .scanOrder => .ok (decodeScan w)
  | .mipMapped => if bit w 31 then .ok .tcwMipmapped else .error .mipMappedClear
  | .palRamCtrl => .ok (decodePalette w)
  | .fbPackmode => .ok (decodePack w)

/-- The instruction at the front of a byte string, and the bytes after it (every format is one word, rule R169). -/
def decodeBytes (f : Format) : List Byte → Except DecodeError (Instr × List Byte)
  | b0 :: b1 :: b2 :: b3 :: rest =>
    match decode f (wordOfBytes b0 b1 b2 b3) with
    | .ok i => .ok (i, rest)
    | .error e => .error e
  | _ => .error .truncated

/-- A flag's contribution to a word: bit `i`. -/
def flagAt (b : Bool) (i : Nat) : Nat := if b then 2 ^ i else 0

/-- The word of an instruction as a number: every field in its place, ignored bits 0 and the other fields of the
same word 0 (30_encoding.md). -/
def encodeNat : Instr → Nat
  | .region tx ty nw ps zk lr =>
    4 * tx + 2 ^ 8 * ty + flagAt nw 28 + flagAt ps 29 + flagAt zk 30 + flagAt lr 31
  | .ptr p => 4 * p
  | .ptrEmpty p => 4 * p + 2 ^ 31
  | .strip offs skip sh mask => offs + 2 ^ 21 * skip + flagAt sh 24 + 2 ^ 25 * mask
  | .tarray offs skip sh prims => offs + 2 ^ 21 * skip + flagAt sh 24 + 2 ^ 25 * prims + 2 ^ 29 * 4
  | .qarray offs skip sh prims => offs + 2 ^ 21 * skip + flagAt sh 24 + 2 ^ 25 * prims + 2 ^ 29 * 5
  | .reserved110 low => low + 2 ^ 29 * 6
  | .link n => 4 * n + 2 ^ 29 * 7
  | .linkEnd n => 4 * n + 2 ^ 28 + 2 ^ 29 * 7
  | .depthNever => 0
  | .depthLess => 2 ^ 29
  | .depthEqual => 2 ^ 29 * 2
  | .depthLessequal => 2 ^ 29 * 3
  | .depthGreater => 2 ^ 29 * 4
  | .depthNotequal => 2 ^ 29 * 5
  | .depthGreaterequal => 2 ^ 29 * 6
  | .depthAlways => 2 ^ 29 * 7
  | .cullNone => 0
  | .cullSmall => 2 ^ 27
  | .cullNegative => 2 ^ 27 * 2
  | .cullPositive => 2 ^ 27 * 3
  | .volNone c => 2 ^ 27 * c
  | .volOr c => 2 ^ 27 * c + 2 ^ 29
  | .volAnd c => 2 ^ 27 * c + 2 ^ 29 * 2
  | .volReserved3 => 2 ^ 29 * 3
  | .volReserved4 => 2 ^ 29 * 4
  | .volReserved5 => 2 ^ 29 * 5
  | .volReserved6 => 2 ^ 29 * 6
  | .volReserved7 => 2 ^ 29 * 7
  | .srcZero => 0
  | .srcOne => 2 ^ 29
  | .srcOther => 2 ^ 29 * 2
  | .srcInvother => 2 ^ 29 * 3
  | .srcSrcalpha => 2 ^ 29 * 4
  | .srcInvsrcalpha => 2 ^ 29 * 5
  | .srcDstalpha => 2 ^ 29 * 6
  | .srcInvdstalpha => 2 ^ 29 * 7
  | .dstZero => 0
  | .dstOne => 2 ^ 26
  | .dstOther => 2 ^ 26 * 2
  | .dstInvother => 2 ^ 26 * 3
  | .dstSrcalpha => 2 ^ 26 * 4
  | .dstInvsrcalpha => 2 ^ 26 * 5
  | .dstDstalpha => 2 ^ 26 * 6
  | .dstInvdstalpha => 2 ^ 26 * 7
  | .fogTable => 0
  | .fogVertex => 2 ^ 22
  | .fogNone => 2 ^ 22 * 2
  | .fogTablealpha => 2 ^ 22 * 3
  | .filterPoint => 0
  | .filterBilinear1 => 2 ^ 13
  | .filterBilinear2 => 2 ^ 13 * 2
  | .filterBilinear3 => 2 ^ 13 * 3
  | .shadDecal => 0
  | .shadModulate => 2 ^ 6
  | .shadDecalalpha => 2 ^ 6 * 2
  | .shadModulatealpha => 2 ^ 6 * 3
  | .fmtArgb1555 a => a
  | .fmtRgb565 a => a + 2 ^ 27
  | .fmtArgb4444 a => a + 2 ^ 27 * 2
  | .fmtYuv422 a => a + 2 ^ 27 * 3
  | .fmtBump a => a + 2 ^ 27 * 4
  | .fmtPal4 sel a => a + 2 ^ 21 * sel + 2 ^ 27 * 5
  | .fmtPal8 sel a => a + 2 ^ 21 * sel + 2 ^ 27 * 6
  | .fmtReserved7 a => a + 2 ^ 27 * 7
  | .tcwVq => 2 ^ 30
  | .tcwTwiddled => 0
  | .tcwStrideScan sel => flagAt sel 25 + 2 ^ 26
  | .tcwMipmapped => 2 ^ 31
  | .palArgb1555 => 0
  | .palRgb565 => 1
  | .palArgb4444 => 2
  | .palArgb8888 => 3
  | .pack0Unsupported => 0
  | .pack1Rgb565 => 1
  | .pack2Unsupported => 2
  | .pack3Unsupported => 3
  | .pack4Unsupported => 4
  | .pack5Unsupported => 5
  | .pack6Argb8888 => 6
  | .pack7Unsupported => 7

/-- The word of a well-formed instruction. -/
def encode (i : Instr) : Word := BitVec.ofNat 32 (encodeNat i)

/-- `n` keeps only the bits of the field `hi:lo` and is not 0: a number that carries one enumerated code. -/
def onlyField (n hi lo : Nat) : Bool := n != 0 && n == n / 2 ^ lo % 2 ^ (hi + 1 - lo) * 2 ^ lo

/-- DESIGN CHOICE (log 21). The format in which a bare number of the opcode table is read when no fetch position
says it. The rows of different formats share numbers (0x80000000 is PTR_EMPTY, TARRAY, DEPTH_GREATER, ...), so one
must be chosen: a number narrower than a word carries a code of a low field; a number whose set bits all lie in one
enumerated field carries that code; every other number is an object-list entry. The machine itself never uses this:
it decodes what it fetches in the format its position gives. -/
def tableFormat (nbits n : Nat) : Format :=
  if onlyField n 23 22 then .fogCtrl
  else if onlyField n 14 13 then .filterMode
  else if onlyField n 7 6 then .shadInstr
  else if onlyField n 2 0 then .fbPackmode
  else if nbits ≤ 8 then .fbPackmode
  else if nbits ≤ 16 then .filterMode
  else if nbits ≤ 24 then .fogCtrl
  else if n / 2 ^ 31 % 2 = 1 then .objectList
  else if onlyField n 31 29 then .depthMode
  else if onlyField n 28 27 then .cullMode
  else if onlyField n 28 26 then .dstInstr
  else if onlyField n 29 27 then .pixelFmt
  else .objectList

/-- The instruction the decoder reads from the number of an opcode-table row (the host's interface): the number is
laid out as the four bytes of a word and decoded in the format `tableFormat` names. -/
def decodeTableWord (nbits w : Nat) : Option Instr :=
  match decodeBytes (tableFormat nbits w) (bytesOfWord (BitVec.ofNat 32 w)) with
  | .ok (i, _) => some i
  | .error _ => none

end Sys2Proof
end

