-- ==== Sys2Proof/Config.lean ====
section
/-! DEFINITION. The data of parameter blocks and colours, and the parameters the spec leaves open (00_scope.md
rule R10, 93_implementation_defined.md section 1): constants with no body, so that nothing can be proved of their
values. -/

namespace Sys2Proof

/-- A colour: four 8-bit channels, each 0..255 (R46, 44_tsp.md preamble). -/
structure Color where
  r : Byte
  g : Byte
  b : Byte
  a : Byte
deriving DecidableEq, Repr, Inhabited

/-- A vertex record (R165, R261). Coordinates and texture coordinates are binary32 patterns (a 16-bit UV is widened
when it is read, R167), colours are packed words (R166). A field the ISP word says is absent is 0 (log 26). -/
structure Vertex where
  x : Word
  y : Word
  z : Word
  u : Word
  v : Word
  base : Word
  offset : Word
  u1 : Word
  v1 : Word
  base1 : Word
  offset1 : Word
deriving DecidableEq, Repr, Inhabited

/-- A parameter header (R260). `tsp2` and `tcw2` are 0 when `twoVolume` is false. -/
structure Header where
  twoVolume : Bool
  isp : Word
  tsp : Word
  tcw : Word
  tsp2 : Word
  tcw2 : Word
deriving DecidableEq, Repr, Inhabited

/-- `DrawParameters` (R262): the header, the plane triangle's three vertices, the fourth vertex of a quad, the tag. -/
structure DrawParameters where
  hdr : Header
  v0 : Vertex
  v1 : Vertex
  v2 : Vertex
  v3 : Option Vertex
  tag : Word
deriving DecidableEq, Repr, Inhabited

/-- Colour with every channel 0. -/
def Color.zero : Color := ⟨0, 0, 0, 0⟩

/-- Vertex with every field 0. -/
def Vertex.zero : Vertex := ⟨0, 0, 0, 0, 0, 0, 0, 0, 0, 0, 0⟩

/-- Parameters with every field 0. -/
def DrawParameters.zero : DrawParameters :=
  ⟨⟨false, 0, 0, 0, 0, 0⟩, Vertex.zero, Vertex.zero, Vertex.zero, none, 0⟩

/-- The two settings of the open parameter `DEPTH_CLEAR_MODE` (R10, R210, D1). -/
inductive DepthClearMode where
  | backgndD
  | fltMax
deriving DecidableEq, Repr, Inhabited

/-- Open parameter `MIP_LEVEL(P, lx, ly)` (R411, D23): the mip level of a fetch; the sampler takes it no higher than
the last level `bu` (log 9). -/
opaque Config.mipLevel : DrawParameters → Nat → Nat → Nat

/-- Open parameter `PAL_MIP_OFFSET(bits, k)` (R416, D23): where level `k` of a palette mipmap starts, in bytes. -/
opaque Config.palMipOffset : Nat → Nat → Nat

/-- Open parameter `BUMP_TEXEL(t, P, lx, ly)` (R427, D26): the colour of a bump-map texel. -/
opaque Config.bumpTexel : Half → DrawParameters → Nat → Nat → Color

/-- Free value (log 12): the `n`-th rational no rule states (a coordinate that is not finite, a weight over a plane
of area 0, when a stale tag is shaded). -/
opaque Config.freeRational : Nat → Rat

/-- Free value (log 14): the `n`-th byte no rule states (the fog alpha of a 1/w that is not finite). -/
opaque Config.freeByte : Nat → Byte

/-- Free value (log 13): the `n`-th vertex no rule states (strip vertices 8 and 9, which a tag with offset 6 or 7
names and no strip has). -/
opaque Config.freeVertex : Nat → Vertex

end Sys2Proof
end

