-- ==== Sys2Proof/Machine/Float.lean ====
section
/-! DEFINITION. Binary32 values as bit patterns: exact conversion to rationals, rounding, comparison (rules R12, R13,
R14, R301, R325). -/

namespace Sys2Proof.Machine

/-- `FLT_MAX` (R14). -/
def fltMax : Word := 0x7F7FFFFF

/-- The pattern is neither an infinity nor a NaN. -/
def f32Finite (w : Word) : Bool := bits w 30 23 != 255

/-- The pattern is a NaN. -/
def f32NaN (w : Word) : Bool := bits w 30 23 == 255 && bits w 22 0 != 0

/-- The magnitude of a finite pattern in units of `2^-149`, the least positive binary32 value. -/
def f32Units (w : Word) : Nat :=
  if bits w 30 23 = 0 then bits w 22 0 else (2 ^ 23 + bits w 22 0) * 2 ^ (bits w 30 23 - 1)

/-- `f32(w)` of a finite pattern, exactly (R12, R13). -/
def f32Value (w : Word) : Rat :=
  mkRat (if bit w 31 then -(f32Units w : Int) else (f32Units w : Int)) (2 ^ 149)

/-- A number that orders the patterns that are no NaN as their values are ordered; both zeros give 0. -/
def f32Key (w : Word) : Int := if bit w 31 then -(bits w 30 0 : Int) else (bits w 30 0 : Int)

/-- IEEE `a < b` (R325): false if either is a NaN. -/
def f32Lt (a b : Word) : Bool := !f32NaN a && !f32NaN b && decide (f32Key a < f32Key b)

/-- IEEE `a = b` (R325): false if either is a NaN, true of the two zeros. -/
def f32Eq (a b : Word) : Bool := !f32NaN a && !f32NaN b && f32Key a == f32Key b

/-- The natural number nearest to `n / d`, ties to even. -/
def roundHalfEven (n d : Nat) : Nat :=
  if 2 * (n % d) < d then n / d
  else if d < 2 * (n % d) then n / d + 1
  else n / d + n / d % 2

/-- The exponent `e` with `2^e ≤ n / d < 2^(e+1)`, for positive `n` and `d`. -/
def floorLog2 (n d : Nat) : Int :=
  let l : Int := (Nat.log2 n : Int) - (Nat.log2 d : Int)
  if d * 2 ^ l.toNat ≤ n * 2 ^ (-l).toNat then l else l - 1

/-- The magnitude bits of the binary32 value nearest to `n / d`. The significand is the quotient by the unit `2^k` in
the last place, rounded; a carry out of it moves on to the next exponent by itself. -/
def roundMagnitude (n d : Nat) : Nat :=
  if n = 0 then 0
  else
    let k := max (floorLog2 n d - 23) (-149)
    let m := roundHalfEven (n * 2 ^ (-k).toNat) (d * 2 ^ k.toNat)
    min (m + (k + 149).toNat * 2 ^ 23) 0x7F800000

/-- `rne32(q)` (R12): the nearest binary32 value, ties to even, overflow to an infinity. A rational 0 gives `+0`, a
negative number that rounds to zero gives `-0` (log 15). -/
def rne32 (q : Rat) : Word :=
  BitVec.ofNat 32 (roundMagnitude q.num.natAbs q.den + if q.num < 0 then 2 ^ 31 else 0)

/-- The magnitude of a rational. -/
def ratAbs (q : Rat) : Rat := if q < 0 then -q else q

/-- `2^k` for an integer `k`. -/
def pow2 (k : Int) : Rat := mkRat (2 ^ k.toNat) (2 ^ (-k).toNat)

end Sys2Proof.Machine
end

