-- ==== Sys2Proof/Machine/State.lean ====
section
/-! DEFINITION. The state of the block (10_state.md), the reasons a step can stop, and the state after reset
(70_reset_and_hazards.md rule R701). -/

namespace Sys2Proof.Machine

/-- Why the machine stops with a fault. The block itself has no stopping fault (R600). -/
inductive Fault where
  /-- Raised by a step whose fetch pointer (`regionPtr`, `listPtr`, an operand address) is not a multiple of 4. Rule
  R100: no misaligned access can arise, and a model may refuse one. Safe: no state reached from reset has such a
  pointer. -/
  | misalignedPointer (address : Nat)
deriving DecidableEq, Repr

/-- Why a step has no meaning: the refusals of rule R606, each a stop of the whole frame without a VRAM image. -/
inductive Refusal where
  /-- Raised by an arm of `exec` for an instruction without a meaning. Safe. No arm raises it. -/
  | notModelled (mnemonic : String)
  /-- Raised by the fold after a modifier block whose VolumeMode is 3..7 (R354, R606). Safe: the spec refuses it. -/
  | volumeModeReserved (code : Nat)
  /-- Raised when the shader reaches a textured set with `VQ_Comp = 1` (R415, R606). Safe: the spec refuses it. -/
  | vqCompressed
  /-- Raised when the shader reaches a textured set with `PixelFmt = 7` (R415, R606). Safe: the spec refuses it. -/
  | pixelFmtReserved
  /-- Raised by a traversal in render mode PUNCHTHROUGH_MV (R329, R606). Safe: the spec refuses it. -/
  | punchthroughMvTraversal
  /-- Raised by a step that executes one operand code alone (`Ctl.operand`) on a word that carries none. Safe: no
  frame does this. -/
  | undecodable (e : DecodeError)
deriving DecidableEq, Repr

/-- The register fields `check_configuration` names (R601, R605). -/
inductive ConfigField where
  | fbPackmode
  | vscalefactor
  | hscale
  | interlace
deriving DecidableEq, Repr

/-- The errors of rules R604 and R605 with the information each carries. -/
inductive FrameError where
  /-- `ConfigurationUnsupported(field)`, the only fatal kind. -/
  | configurationUnsupported (field : ConfigField)
  /-- `MalformedList(p, w)`: an object-list entry of type 0b110. -/
  | malformedList (p : Nat) (w : Word)
  /-- `MalformedList("no last_region in 1024 entries")`. -/
  | noLastRegion
  /-- `AddressOutOfRange(a)`, the unmasked logical address. -/
  | addressOutOfRange (a : Nat)
  /-- `NumericDomain(tag)`. -/
  | numericDomain (tag : Word)
deriving DecidableEq, Repr

/-- The result of a finished frame (R610). `Refused` is the outcome `refused` of a step, "no result" a run that
never becomes idle. -/
inductive FrameResult where
  | ok (errors : List FrameError)
  | aborted (e : FrameError) (errors : List FrameError)
deriving DecidableEq, Repr

/-- The seven render modes (R203). -/
inductive RenderMode where
  | opaqueMode
  | punchthroughPass0
  | punchthroughPassN
  | punchthroughMv
  | translucentAutosort
  | translucentPresort
  | modifier
deriving DecidableEq, Repr

/-- A list pointer as `decode_ptr` leaves it (R122, R240). -/
structure ListPointer where
  empty : Bool
  address : Nat
deriving DecidableEq, Repr

/-- A decoded region-array entry (R240). -/
structure RegionEntry where
  tilex : Nat
  tiley : Nat
  noWriteout : Bool
  preSort : Bool
  zKeep : Bool
  lastRegion : Bool
  opaqueList : ListPointer
  opaqueModList : ListPointer
  transList : ListPointer
  transModList : ListPointer
  ptList : ListPointer
deriving DecidableEq, Repr

/-- One pixel of the tile buffers (R39 to R46, R323). Depths are binary32 patterns. -/
structure Pixel where
  depthTest : Word
  depthRef : Word
  /-- `depth_test_prev` of rule R323. -/
  depthPrev : Word
  /-- Bit 0 current volume, bit 1 OR, bit 2 AND; bits 7:3 always 0 (R42). -/
  stencil : Byte
  tag : Word
  tagRef : Word
  /-- Bit 0 WRITTEN, bit 1 PT_HOLE; bits 7:2 always 0 (R45). -/
  status : Byte
  accum : Color
deriving DecidableEq, Repr

/-- The ISP's operand and result registers (the model's own, log 7). -/
structure IspUnit where
  /-- Signed doubled area of the primitive being set up (R302). -/
  area2 : Rat
  /-- Outcome of the CullMode code. -/
  culled : Bool
  /-- Depth of the fragment at the current pixel (R308), a binary32 pattern. -/
  zf : Word
  /-- Outcome of the DepthMode code. -/
  pass : Bool
deriving DecidableEq, Repr

/-- The TSP's operand and result registers (the model's own, log 7). -/
structure TspUnit where
  /-- The primitive being shaded. -/
  params : DrawParameters
  /-- TSP word and TCW of the selected set (R402). -/
  tspWord : Word
  tcw : Word
  /-- Interpolated attributes (R405 to R409). -/
  u : Rat
  v : Rat
  base : Color
  offset : Color
  zf : Word
  /-- Sizes and number of the mip level being sampled (R410, R411). -/
  nu : Nat
  nv : Nat
  level : Nat
  /-- Addressed texel coordinates, their texel index, the palette entry and the decoded texel (R413 to R426). -/
  iu : Nat
  iv : Nat
  index : Nat
  palEntry : Word
  texel : Color
  /-- Filtered texture colour, running colour, and the source term of the blend (R404, R431, R461). -/
  tex : Color
  c : Color
  srcTerm : Color
deriving DecidableEq, Repr

/-- Where the pass driver stands (the model's own, log 1): which word it fetches next, or what it does next. The
names follow the steps of 40_pass_driver.md. -/
inductive Ctl where
  /-- Between frames: the next step is the host's call of `render()` (log 2). -/
  | idle
  /-- Fetch `FB_W_CTRL` for `check_configuration` (R601). -/
  | checkPack
  /-- The three `SCALER_CTL` checks (R601). -/
  | checkScaler
  /-- Fetch a region control word at `regionPtr` (R240). -/
  | region
  /-- Fetch list pointer number `ptrIndex` of the entry (R240). -/
  | pointer
  /-- Tile setup (R210). -/
  | setup
  /-- Opaque pass (R212). -/
  | opaqueStart
  /-- Opaque modifier traversal (R213). -/
  | opaqueModStart
  /-- `render_param_tags(OPAQUE)` (R214). -/
  | opaqueTags
  /-- Punch-through pass and its initialisation (R216, R217). -/
  | ptStart
  /-- Punch-through loop, steps 1 and 2 (R218, R219). -/
  | ptIterate
  /-- Punch-through loop, steps 3 and 4 (R220, R221). -/
  | ptTest
  /-- Punch-through loop, step 5 (R222). -/
  | ptTags
  /-- Modifier traversal after the loop (R224). -/
  | ptModStart
  /-- `render_param_tags(PUNCHTHROUGH_MV)` (R224). -/
  | ptMvTags
  /-- Translucent pass: choice of strategy (R225 to R227). -/
  | transStart
  /-- Auto-sort loop, clears and traversal (R228, R229). -/
  | sortIterate
  /-- Auto-sort loop, modifier traversal (R229). -/
  | sortModStart
  /-- Auto-sort loop, `render_param_tags(TRANSLUCENT_AUTOSORT)` (R229). -/
  | sortTags
  /-- Auto-sort loop end (R230). -/
  | sortTest
  /-- Fetch an object-list word at `listPtr`; the driver goes on at `resume` when the walk ends (R245). -/
  | walk
  /-- Writeback: fetch `FB_W_CTRL` and pack, unless `no_writeout` (R231). -/
  | writeback
  /-- End of the region entry (R200). -/
  | entryEnd
  /-- Execute one operand code alone: the code of format `f` in the word at logical address `a` (log 22). No frame
  comes here. -/
  | operand (f : Format) (a : Nat)
deriving DecidableEq, Repr

/-- The state of the block. -/
structure State where
  /-- VRAM by physical address (R90): the bytes that are not 0 (log 5). -/
  vram : List Host.Cell
  /-- The register file by word number (R32): the registers that are not 0 (log 3). -/
  regs : List (Nat × Word)
  /-- The tile buffers, pixel `(lx, ly)` at number `32 * ly + lx` (R39). -/
  tile : Vector Pixel 1024
  /-- R52. -/
  andPhase : Bool
  /-- R51. -/
  moreToDraw : Bool
  /-- R49. -/
  regionPtr : Nat
  /-- R50. -/
  listPtr : Nat
  /-- R53. -/
  mode : RenderMode
  /-- R53. -/
  tilex : Nat
  tiley : Nat
  /-- R53, R603. -/
  errors : List FrameError
  /-- R610: the result of the last frame, none before the first and while one runs. -/
  result : Option FrameResult
  /-- The region entry being processed (R240). -/
  entry : RegionEntry
  /-- `n` of rule R200's loop. -/
  entryCount : Nat
  /-- `iteration` of the punch-through loop (R217). -/
  ptIteration : Nat
  /-- R56. -/
  fpuCache : List (Word × DrawParameters)
  /-- The model's own: position of the pass driver (log 1). -/
  ctl : Ctl
  resume : Ctl
  ptrIndex : Nat
  /-- The model's own: the pixel the units work on, and their registers (log 7). -/
  pix : Fin 1024
  isp : IspUnit
  tsp : TspUnit
  /-- The open parameter DEPTH_CLEAR_MODE, written by no step (log 8). -/
  depthClearMode : DepthClearMode
  /-- The model's own: how many free values have been drawn (log 12). -/
  freeDraws : Nat
deriving DecidableEq, Repr

/-- Power-on contents of a pixel (`TILE_BUFFER_POWERON`, R48): DESIGN CHOICE zero (log 4). -/
def Pixel.powerOn : Pixel := ⟨0, 0, 0, 0, 0, 0, 0, Color.zero⟩

/-- A pointer to no list. -/
def ListPointer.none : ListPointer := ⟨true, 0⟩

/-- The region entry before any was read (log 6). -/
def RegionEntry.zero : RegionEntry :=
  ⟨0, 0, false, false, false, false, .none, .none, .none, .none, .none⟩

/-- The machine right after reset (R701): VRAM and registers as log entries 3 and 5 name them, tile buffers as log
entry 4, the pass driver idle (logs 1, 2 and 6), no errors, no result, an empty FPU cache. -/
def State.reset : State where
  vram := []
  regs := []
  tile := Vector.replicate 1024 Pixel.powerOn
  andPhase := false
  moreToDraw := false
  regionPtr := 0
  listPtr := 0
  mode := .opaqueMode
  tilex := 0
  tiley := 0
  errors := []
  result := none
  entry := RegionEntry.zero
  entryCount := 0
  ptIteration := 0
  fpuCache := []
  ctl := .idle
  resume := .idle
  ptrIndex := 0
  pix := 0
  isp := ⟨0, false, 0, false⟩
  tsp := ⟨DrawParameters.zero, 0, 0, 0, 0, Color.zero, Color.zero, 0, 0, 0, 0, 0, 0, 0, 0,
    Color.zero, Color.zero, Color.zero, Color.zero⟩
  depthClearMode := .backgndD
  freeDraws := 0

end Sys2Proof.Machine
end

