-- ==== Sys2Proof/Machine/Ops.lean ====
section
/-! DEFINITION. The named operations over registers, memory, errors and tile buffers. Values are read by pure
functions; what a read can do to the state (report `AddressOutOfRange`, R95) is done by `touch`. -/

namespace Sys2Proof.Machine

/-- The outcome of an operation on the state. -/
abbrev Res := Host.Outcome State Fault Refusal

/-- Go on with `f` from the next state; a fault or a refusal ends everything (R607). -/
def andThen (o : Res) (f : State → Res) : Res :=
  match o with
  | .next s => f s
  | .fault r => .fault r
  | .refused r => .refused r

/-- Perform `f` on the items of a list in order. -/
def forEach {α : Type} (f : α → State → Res) : List α → State → Res
  | [], s => .next s
  | a :: as, s => andThen (f a s) (forEach f as)

/-! ### Sparse contents: a list of (address, value), addresses rising, no value 0 -/

/-- The value at an address; an address that is not listed holds 0. -/
def sparseGet {w : Nat} : List (Nat × BitVec w) → Nat → BitVec w
  | [], _ => 0
  | (k, v) :: rest, a => if k = a then v else sparseGet rest a

/-- Put a value at an address, keeping the canonical form: a 0 is not listed. -/
def sparseSet {w : Nat} : List (Nat × BitVec w) → Nat → BitVec w → List (Nat × BitVec w)
  | [], a, v => if v = 0 then [] else [(a, v)]
  | (k, u) :: rest, a, v =>
    if a < k then (if v = 0 then (k, u) :: rest else (a, v) :: (k, u) :: rest)
    else if a = k then (if v = 0 then rest else (a, v) :: rest)
    else (k, u) :: sparseSet rest a v

/-- The canonical form from address `lo` up to below `hi`: addresses strictly rising, no value 0. -/
def sparseWf {w : Nat} (hi : Nat) : Nat → List (Nat × BitVec w) → Bool
  | _, [] => true
  | lo, (k, v) :: rest => lo ≤ k && k < hi && v != 0 && sparseWf hi (k + 1) rest

/-! ### VRAM (20_memory.md) -/

/-- The number of bytes of VRAM (R90). -/
def vramSize : Nat := 0x800000

/-- The byte of VRAM at a physical address (R90). An unlisted byte reads 0 (log 5). -/
def Memory.read (m : List Host.Cell) (p : Nat) : Byte := sparseGet m p

/-- Write a byte of VRAM at a physical address. -/
def Memory.write (m : List Host.Cell) (p : Nat) (b : Byte) : List Host.Cell := sparseSet m p b

/-- The canonical form of VRAM: physical addresses strictly rising and below 8 MiB, no byte 0 listed. -/
def Memory.wf (m : List Host.Cell) : Bool := sparseWf vramSize 0 m

/-- The bank-interleave map on a masked address (R93). -/
def pvrMap32 (a : Nat) : Nat := a / 2 ^ 2 % 2 ^ 20 * 8 + a / 2 ^ 22 % 2 * 4 + a % 4

/-- The physical address of a logical address in the interleaved view (R93, R95). -/
def physical (a : Nat) : Nat := pvrMap32 (a % vramSize)

/-- The value of `R32(a)` (R96). -/
def word32 (m : List Host.Cell) (a : Nat) : Word :=
  wordOfBytes (Memory.read m (physical a)) (Memory.read m (physical a + 1)) (Memory.read m (physical a + 2))
    (Memory.read m (physical a + 3))

/-- The value of `T8(a)` (R98). -/
def texel8 (m : List Host.Cell) (a : Nat) : Byte := Memory.read m (a % vramSize)

/-- The value of `T16(a)` (R98). -/
def texel16 (m : List Host.Cell) (a : Nat) : Half :=
  BitVec.ofNat 16 ((texel8 m a).toNat + 2 ^ 8 * (texel8 m (a + 1)).toNat)

/-- The bytes `W16(a, v)` writes (R97). -/
def store16 (m : List Host.Cell) (a : Nat) (v : Half) : List Host.Cell :=
  Memory.write (Memory.write m (physical a) (BitVec.ofNat 8 v.toNat)) (physical a + 1)
    (BitVec.ofNat 8 (v.toNat / 2 ^ 8))

/-- The bytes `W32(a, v)` writes (R97). -/
def store32 (m : List Host.Cell) (a : Nat) (v : Word) : List Host.Cell :=
  Memory.write (Memory.write (Memory.write (Memory.write m (physical a) (byteOfWord v 0))
    (physical a + 1) (byteOfWord v 1)) (physical a + 2) (byteOfWord v 2)) (physical a + 3) (byteOfWord v 3)

/-! ### Errors (60_exceptions.md): the block's only exceptional behaviour (R600) -/

/-- The numeric code of an error's kind (R604): both forms of `MalformedList` have code 1. -/
def FrameError.code : FrameError → Nat
  | .configurationUnsupported _ => 0
  | .malformedList _ _ | .noLastRegion => 1
  | .addressOutOfRange _ => 2
  | .numericDomain _ => 3

/-- `report E(info)` (R603): append the error; the frame goes on. -/
def report (e : FrameError) (s : State) : State := { s with errors := s.errors ++ [e] }

/-- `abort E(info)` (R602): the frame ends at once with the result `Aborted`; nothing else changes. -/
def abortFrame (f : ConfigField) (s : State) : State :=
  { s with result := some (.aborted (.configurationUnsupported f) s.errors), ctl := .idle }

/-- `render()` returns `Ok(errors)` (R610). -/
def finishFrame (s : State) : State := { s with result := some (.ok s.errors), ctl := .idle }

/-- What accessing VRAM at logical address `a` does to the state (R95): an address at or above 8 MiB is reported. -/
def touch (a : Nat) (s : State) : State := if vramSize ≤ a then report (.addressOutOfRange a) s else s

/-- Access a list of addresses in order (R607). -/
def touchAll : List Nat → State → State
  | [], s => s
  | a :: as, s => touchAll as (touch a s)

/-- The addresses of `n` consecutive words from `a`. -/
def wordAddresses (a n : Nat) : List Nat := (List.range n).map fun k => a + 4 * k

/-- `W16(a, v)` (R97). -/
def write16 (a : Nat) (v : Half) (s : State) : State := touch a { s with vram := store16 s.vram a v }

/-- `W32(a, v)` (R97). -/
def write32 (a : Nat) (v : Word) (s : State) : State := touch a { s with vram := store32 s.vram a v }

/-! ### Registers (10_state.md section 2) -/

/-- The rendering registers by name (R34). -/
inductive Reg where
  | paramBase
  | regionBase
  | voBorderCol
  | fbWCtrl
  | fbWLinestride
  | fbWSof1
  | fbWSof2
  | fpuShadScale
  | fpuCullVal
  | fpuParamCfg
  | halfOffset
  | ispBackgndD
  | ispBackgndT
  | ispFeedCfg
  | fogColRam
  | fogColVert
  | fogDensity
  | fogClampMax
  | fogClampMin
  | textControl
  | scalerCtl
  | palRamCtrl
  | ptAlphaRef
  | fogTable (i : Nat)
  | paletteRam (i : Nat)
deriving DecidableEq, Repr

/-- The byte offset of a register (R34). -/
def regOffset : Reg → Nat
  | .paramBase => 0x020
  | .regionBase => 0x02C
  | .voBorderCol => 0x040
  | .fbWCtrl => 0x048
  | .fbWLinestride => 0x04C
  | .fbWSof1 => 0x060
  | .fbWSof2 => 0x064
  | .fpuShadScale => 0x074
  | .fpuCullVal => 0x078
  | .fpuParamCfg => 0x07C
  | .halfOffset => 0x080
  | .ispBackgndD => 0x088
  | .ispBackgndT => 0x08C
  | .ispFeedCfg => 0x098
  | .fogColRam => 0x0B0
  | .fogColVert => 0x0B4
  | .fogDensity => 0x0B8
  | .fogClampMax => 0x0BC
  | .fogClampMin => 0x0C0
  | .textControl => 0x0E4
  | .scalerCtl => 0x0F4
  | .palRamCtrl => 0x108
  | .ptAlphaRef => 0x11C
  | .fogTable i => 0x200 + 4 * i
  | .paletteRam i => 0x1000 + 4 * i

/-- `REG(name) = regs[offset(name) / 4]` (R32). An unlisted register holds 0 (log 3). -/
def reg (s : State) (r : Reg) : Word := sparseGet s.regs (regOffset r / 4)

/-- The canonical form of the register file: word numbers strictly rising and below 8192, no 0 listed. -/
def regsWf (m : List (Nat × Word)) : Bool := sparseWf 8192 0 m

/-! Derived register values (R38). -/

/-- `param_base = REG(PARAM_BASE) & 0x00F00000` (R38). -/
def paramBase (s : State) : Nat := bits (reg s .paramBase) 23 20 * 2 ^ 20

/-- `region_base = REG(REGION_BASE) & 0x00FFFFFC` (R38). -/
def regionBase (s : State) : Nat := bits (reg s .regionBase) 23 2 * 4

/-- `entry_words` (R38). -/
def entryWords (s : State) : Nat := if bit (reg s .fpuParamCfg) 21 then 6 else 5

/-- `two_volume_en` (R38). -/
def twoVolumeEn (s : State) : Bool := !bit (reg s .fpuShadScale) 8

/-- `half_offset` (R38). -/
def halfOffset (s : State) : Bool := bit (reg s .halfOffset) 0

/-- `bg_tag` (R38). -/
def bgTag (s : State) : Word := BitVec.ofNat 32 (bits (reg s .ispBackgndT) 28 0)

/-- `bg_depth`, as a pattern (R38). -/
def bgDepth (s : State) : Word := reg s .ispBackgndD

/-- `pt_alpha_ref` (R38). -/
def ptAlphaRef (s : State) : Nat := bits (reg s .ptAlphaRef) 7 0

/-- `stride_bytes` (R38). -/
def strideBytes (s : State) : Nat := bits (reg s .fbWLinestride) 8 0 * 8

/-- The framebuffer start `REG(FB_W_SOF1)[24:2] << 2` (R500, R512). -/
def frameStart (s : State) : Nat := bits (reg s .fbWSof1) 24 2 * 4

/-! ### Tile buffers (10_state.md section 3) -/

/-- Pixel number `32 * ly + lx`: its local column. -/
def pixelX (i : Fin 1024) : Nat := i.val % 32

/-- Its local row. -/
def pixelY (i : Fin 1024) : Nat := i.val / 32

/-- Its screen column `X` (R39). -/
def screenX (s : State) (i : Fin 1024) : Nat := 32 * s.tilex + pixelX i

/-- Its screen row `Y` (R39). -/
def screenY (s : State) (i : Fin 1024) : Nat := 32 * s.tiley + pixelY i

/-- The pixels of a tile, row by row (R309, R463: the order of pixels is not observable but in the error list,
log 17; R510: the writeback's order). -/
def allPixels : List (Fin 1024) := List.finRange 1024

/-- The tile buffers at a pixel. -/
def pixel (s : State) (i : Fin 1024) : Pixel := s.tile[i.val]

/-- Change the tile buffers at one pixel. -/
def updatePixel (i : Fin 1024) (f : Pixel → Pixel) (s : State) : State :=
  { s with tile := s.tile.set i.val (f (pixel s i)) }

/-- Change the tile buffers at every pixel. -/
def mapTile (f : Pixel → Pixel) (s : State) : State := { s with tile := s.tile.map f }

/-- `status.WRITTEN` (R45). -/
def Pixel.written (p : Pixel) : Bool := p.status.getLsbD 0

/-- The stencil with bit 0 cleared. -/
def clearBit0 (b : Byte) : Byte := b &&& 0xFE

/-- A tag is "background" (R55). -/
def isBackground (s : State) (t : Word) : Bool := t == bgTag s || t == 0xFFFFFFFF

/-- `border_color` (R210). -/
def borderColor (s : State) : Color :=
  let c := reg s .voBorderCol
  ⟨BitVec.ofNat 8 (bits c 23 16), BitVec.ofNat 8 (bits c 15 8), BitVec.ofNat 8 (bits c 7 0), 255⟩

/-- `depth_clear` (R210). -/
def depthClear (s : State) : Word :=
  match s.depthClearMode with
  | .backgndD => bgDepth s
  | .fltMax => fltMax

/-- What tile setup with `z_keep = 0` leaves at a pixel (R210). `depthPrev` is no buffer of the clear (R323). -/
def clearedPixel (s : State) (p : Pixel) : Pixel :=
  { p with
    depthTest := depthClear s
    depthRef := fltMax
    stencil := 0
    status := 0
    tag := bgTag s
    tagRef := 0xFFFFFFFF
    accum := borderColor s }

/-- Tile setup (R210). -/
def tileSetup (s : State) : State :=
  let s1 := { s with tilex := s.entry.tilex, tiley := s.entry.tiley, fpuCache := [] }
  if s.entry.zKeep then mapTile (fun p => { p with status := 0 }) s1
  else mapTile (clearedPixel s) { s1 with andPhase := false }

/-! ### Free values (logs 12 to 14) -/

/-- Draw a free rational. -/
def drawRational (s : State) : Rat × State :=
  (Config.freeRational s.freeDraws, { s with freeDraws := s.freeDraws + 1 })

/-- Draw a free byte. -/
def drawByte (s : State) : Byte × State :=
  (Config.freeByte s.freeDraws, { s with freeDraws := s.freeDraws + 1 })

/-- Draw a free vertex. -/
def drawVertex (s : State) : Vertex × State :=
  (Config.freeVertex s.freeDraws, { s with freeDraws := s.freeDraws + 1 })

end Sys2Proof.Machine
end

