-- ==== Sys2Proof/Machine/Flags.lean ====
section
/-! DEFINITION. Every test and flag: depth comparison, culling, stencil folds, `inside`, status bits
(30_encoding.md R147 and R148, 42_isp.md R325, 43_stencil.md, 44_tsp.md R456). -/

namespace Sys2Proof.Machine

/-- `DepthTest(mode, z, zb)` (R147, R325): the new fragment's depth against the stored one. IEEE comparisons: with a
NaN only codes 5 and 7 pass. -/
def depthPasses (code : Nat) (z zb : Word) : Bool :=
  match code with
  | 0 => false
  | 1 => f32Lt z zb
  | 2 => f32Eq z zb
  | 3 => f32Lt z zb || f32Eq z zb
  | 4 => f32Lt zb z
  | 5 => !f32Eq z zb
  | 6 => f32Lt zb z || f32Eq z zb
  | _ => true

/-- The DepthMode code at the current pixel: the ISP compares its fragment with `depth_test` there. -/
def evalDepth (code : Nat) (s : State) : State :=
  { s with isp := { s.isp with pass := depthPasses code s.isp.zf (pixel s s.pix).depthTest } }

/-- `abs(area) < cull_val` with `area = area2 / 2` and `cull_val = abs(f32(FPU_CULL_VAL))` (R148). An infinite
threshold is above every area and a NaN above none (log 16). -/
def areaBelow (area2 : Rat) (w : Word) : Bool :=
  if f32Finite w then decide (ratAbs (area2 / 2) < ratAbs (f32Value w)) else !f32NaN w

/-- The triangle is culled by a CullMode code (R148). -/
def culls (code : Nat) (area2 : Rat) (w : Word) : Bool :=
  match code with
  | 0 => false
  | 1 => areaBelow area2 w
  | 2 => areaBelow area2 w || decide (area2 < 0)
  | _ => areaBelow area2 w || decide (0 < area2)

/-- The CullMode code on the primitive whose area the ISP holds (R305). -/
def evalCull (code : Nat) (s : State) : State :=
  { s with isp := { s.isp with culled := culls code s.isp.area2 (reg s .fpuCullVal) } }

/-- `summarize_stencil_or` at one pixel (R352): bit 1 takes bit 0 in, bit 0 is cleared. -/
def foldOr (b : Byte) : Byte := clearBit0 (if b.getLsbD 0 then b ||| 0x02 else b)

/-- `summarize_stencil_and` at one pixel (R353): bit 2 stays only with bit 0, bit 0 is cleared. -/
def foldAnd (b : Byte) : Byte := clearBit0 (if b.getLsbD 0 then b else b &&& 0xFB)

/-- `summarize_stencil_or` (R352). -/
def summarizeStencilOr (s : State) : State := mapTile (fun p => { p with stencil := foldOr p.stencil }) s

/-- `summarize_stencil_and` (R353). -/
def summarizeStencilAnd (s : State) : State :=
  { mapTile (fun p => { p with stencil := foldAnd p.stencil }) s with andPhase := true }

/-- The VolumeMode code: the fold it selects, or the refusal (R354). -/
def evalVolume (code : Nat) (s : State) : Res :=
  match code with
  | 0 => .next s
  | 1 => .next (summarizeStencilOr s)
  | 2 => .next (summarizeStencilAnd s)
  | n => .refused (.volumeModeReserved n)

/-- `inside(lx, ly)` (R355). -/
def inside (s : State) (i : Fin 1024) : Bool :=
  (pixel s i).stencil.getLsbD 1 && ((pixel s i).stencil.getLsbD 2 || !s.andPhase)

/-- `status.WRITTEN <- 1` (R400). -/
def setWritten (p : Pixel) : Pixel := { p with status := p.status ||| 0x01 }

/-- `status.WRITTEN <- 0` (R321). -/
def clearWritten (p : Pixel) : Pixel := { p with status := p.status &&& 0xFE }

/-- What a Z-hole leaves at its pixel (R456): the background tag, WRITTEN 0, PT_HOLE 1. -/
def zHole (bg : Word) (p : Pixel) : Pixel :=
  { p with tag := bg, status := (p.status &&& 0xFE) ||| 0x02 }

end Sys2Proof.Machine
end

