-- ==== Sys2Proof/Machine/Operands.lean ====
section
/-! DEFINITION. Operands of the display list: list pointers, parameter headers, vertices, tags, and the resolution
of a tag to its parameters (30_encoding.md, 41_display_list.md, 44_tsp.md R401). -/

namespace Sys2Proof.Machine

/-! ### Parameter tags -/

/-- `make_tag` (R136): the array offset may have grown past 21 bits, the tag keeps its low 21 (R255). The bypass bit is
bit 21 of `isp`, which callers give as `polygonWord`: a modifier's tag, seen in `NumericDomain` only, has it 0 since
that bit is ignored there (R146, R168; log 37). -/
def makeTag (i offs skip : Nat) (shadow : Bool) (isp : Word) : Word :=
  BitVec.ofNat 32 (i + 2 ^ 3 * (offs % 2 ^ 21) + 2 ^ 24 * skip + flagAt shadow 27 + flagAt (bit isp 21) 28)

/-- `tag_offset` of a tag (R135). -/
def tagOffset (t : Word) : Nat := bits t 2 0

/-- `param_offs_in_words` of a tag (R135). -/
def tagParamOffs (t : Word) : Nat := bits t 23 3

/-- `skip` of a tag (R135). -/
def tagSkip (t : Word) : Nat := bits t 26 24

/-- `shadow` of a tag (R135). -/
def tagShadow (t : Word) : Bool := bit t 27

/-- `cache_bypass` of a tag (R135). -/
def tagBypass (t : Word) : Bool := bit t 28

/-! ### Headers and vertices -/

/-- `two_volume` of a block (R141): none in MODIFIER mode. -/
def twoVolume (s : State) (m : RenderMode) (shadow : Bool) : Bool :=
  if m = .modifier then false else shadow && twoVolumeEn s

/-- Header length in words (R142). -/
def headerWords (two : Bool) : Nat := if two then 5 else 3

/-- `vstride` in words (R142). -/
def vstride (skip : Nat) (two : Bool) : Nat := 3 + skip * (if two then 2 else 1)

/-- The header `read_header` returns (R260). -/
def headerAt (m : List Host.Cell) (block : Nat) (two : Bool) : Header where
  twoVolume := two
  isp := word32 m block
  tsp := word32 m (block + 4)
  tcw := word32 m (block + 8)
  tsp2 := if two then word32 m (block + 12) else 0
  tcw2 := if two then word32 m (block + 16) else 0

/-- The word whose flags select the fields of a block's vertices and give its tags' bypass bit (R136, R145, R261): the
header's ISP word. Of a modifier word bits 26:0 are ignored and have no effect (R146, R168): none of those flags is
set, and a modifier vertex is read as x, y, z and the base colour word R165 always has (log 37). -/
def polygonWord (m : RenderMode) (isp : Word) : Word := if m = .modifier then isp &&& 0xF8000000 else isp

/-- The words a vertex occupies after x, y, z for one parameter set: its UV words (R165). -/
def uvWords (isp : Word) : Nat := if bit isp 25 then (if bit isp 22 then 1 else 2) else 0

/-- The words of one parameter set of a vertex (R165): UV, base colour, offset colour. -/
def setWords (isp : Word) : Nat := uvWords isp + 1 + (if bit isp 24 then 1 else 0)

/-- The words of a vertex that are read (R165); the rest of its stride is not. -/
def vertexWords (isp : Word) (two : Bool) : Nat := 3 + setWords isp + (if two then setWords isp else 0)

/-- The U pattern of a set whose words start at `p` (R165, R167). -/
def uAt (m : List Host.Cell) (isp : Word) (p : Nat) : Word :=
  if bit isp 25 then
    (if bit isp 22 then BitVec.ofNat 32 (bits (word32 m p) 31 16 * 2 ^ 16) else word32 m p)
  else 0

/-- The V pattern of a set whose words start at `p` (R165, R167). -/
def vAt (m : List Host.Cell) (isp : Word) (p : Nat) : Word :=
  if bit isp 25 then
    (if bit isp 22 then BitVec.ofNat 32 (bits (word32 m p) 15 0 * 2 ^ 16) else word32 m (p + 4))
  else 0

/-- The base colour word of a set whose words start at `p` (R165). -/
def baseAt (m : List Host.Cell) (isp : Word) (p : Nat) : Word := word32 m (p + 4 * uvWords isp)

/-- The offset colour word of a set whose words start at `p`, 0 when absent (R165, R405). -/
def offsetAt (m : List Host.Cell) (isp : Word) (p : Nat) : Word :=
  if bit isp 24 then word32 m (p + 4 * uvWords isp + 4) else 0

/-- The vertex at byte address `p` (R165). -/
def vertexAt (m : List Host.Cell) (isp : Word) (two : Bool) (p : Nat) : Vertex :=
  let p0 := p + 12
  let p1 := p0 + 4 * setWords isp
  { x := word32 m p
    y := word32 m (p + 4)
    z := word32 m (p + 8)
    u := uAt m isp p0
    v := vAt m isp p0
    base := baseAt m isp p0
    offset := offsetAt m isp p0
    u1 := if two then uAt m isp p1 else 0
    v1 := if two then vAt m isp p1 else 0
    base1 := if two then baseAt m isp p1 else 0
    offset1 := if two then offsetAt m isp p1 else 0 }

/-- `decode_pvr_vertices(base, skip, two_volume, n, isp)` (R261). -/
def verticesAt (m : List Host.Cell) (base skip : Nat) (two : Bool) (n : Nat) (isp : Word) : List Vertex :=
  (List.range n).map fun k => vertexAt m isp two (base + 4 * (k * vstride skip two))

/-- The addresses `decode_pvr_vertices` reads, in order. -/
def vertexAddresses (base skip : Nat) (two : Bool) (n : Nat) (isp : Word) : List Nat :=
  (List.range n).flatMap fun k => wordAddresses (base + 4 * (k * vstride skip two)) (vertexWords isp two)

/-- A parameter block as the walker reads it: header and `n` vertices. -/
structure Block where
  hdr : Header
  verts : List Vertex
deriving DecidableEq, Repr

/-- The block at byte address `block`, read in a render mode (R140, R260, R261). -/
def blockAt (mode : RenderMode) (m : List Host.Cell) (block skip : Nat) (two : Bool) (n : Nat) : Block :=
  let h := headerAt m block two
  ⟨h, verticesAt m (block + 4 * headerWords two) skip two n (polygonWord mode h.isp)⟩

/-- Every address reading a block in a render mode touches, in order. In MODIFIER mode the flags of a vertex's fields
are ignored bits, and x, y, z and the base colour word are read (log 37). -/
def blockAddresses (mode : RenderMode) (m : List Host.Cell) (block skip : Nat) (two : Bool) (n : Nat) : List Nat :=
  wordAddresses block (headerWords two) ++
    vertexAddresses (block + 4 * headerWords two) skip two n (polygonWord mode (headerAt m block two).isp)

/-- Vertex `k` of a block; the walker never asks beyond the end. -/
def vertexOf (vs : List Vertex) (k : Nat) : Vertex := vs.getD k Vertex.zero

/-- The word offset of the block after this one in an array (R256). -/
def nextBlock (o skip : Nat) (two : Bool) (n : Nat) : Nat := o + headerWords two + n * vstride skip two

/-! ### The FPU cache and tag resolution -/

/-- `fpu_cache[tag] <- P` (R57, R320). -/
def cacheInsert (p : DrawParameters) (s : State) : State :=
  { s with fpuCache := (p.tag, p) :: s.fpuCache.filter fun e => e.1 != p.tag }

/-- The cache entry of a tag (R401). -/
def cacheLookup (s : State) (t : Word) : Option DrawParameters := (s.fpuCache.find? fun e => e.1 == t).map Prod.snd

/-- A strip vertex of a direct decode (R251). A strip has vertices 0 to 7; vertices 8 and 9, which only a tag with
offset 6 or 7 names, are free values (log 13). -/
def stripVertex (vs : List Vertex) (k : Nat) (s : State) : Vertex × State :=
  match vs[k]? with
  | some v => (v, s)
  | none => drawVertex s

/-- Direct decode of a tag (R251), as in a polygon mode (here OPAQUE) whatever the current mode. -/
def directDecode (t : Word) (s : State) : DrawParameters × State :=
  let block := paramBase s + tagParamOffs t * 4
  let two := tagShadow t && twoVolumeEn s
  let b := blockAt .opaqueMode s.vram block (tagSkip t) two 8
  let s1 := touchAll (blockAddresses .opaqueMode s.vram block (tagSkip t) two 8) s
  let i := tagOffset t
  let parity := i % 2
  let r0 := stripVertex b.verts (i + parity) s1
  let r1 := stripVertex b.verts (i + 1 - parity) r0.2
  let r2 := stripVertex b.verts (i + 2) r1.2
  (⟨b.hdr, r0.1, r1.1, r2.1, none, t⟩, r2.2)

/-- The parameters the TSP shades with: all but the fourth vertex of a quad, which a direct decode does not give
(R251) and no shading rule reads (R310, R405), so that both paths of `resolve` agree (R58, R401; log 29). -/
def shadingParameters (p : DrawParameters) : DrawParameters := { p with v3 := none }

/-- `resolve(t)` (R401). -/
def resolve (t : Word) (s : State) : DrawParameters × State :=
  match (if tagBypass t then none else cacheLookup s t) with
  | some p => (shadingParameters p, s)
  | none => directDecode t s

/-! ### Colours -/

/-- A packed colour word (R166). -/
def unpackColor (w : Word) : Color :=
  ⟨BitVec.ofNat 8 (bits w 23 16), BitVec.ofNat 8 (bits w 15 8), BitVec.ofNat 8 (bits w 7 0),
    BitVec.ofNat 8 (bits w 31 24)⟩

/-- Apply an operation to each channel of two colours. -/
def zipColor (f : Byte → Byte → Byte) (c d : Color) : Color := ⟨f c.r d.r, f c.g d.g, f c.b d.b, f c.a d.a⟩

/-- `clamp255` (44_tsp.md preamble). -/
def clamp255 (x : Int) : Byte := BitVec.ofNat 8 (min (max x 0) 255).toNat

/-- `mul8(a, b) = (a * b + 127) div 255` (44_tsp.md preamble). -/
def mul8 (a b : Byte) : Byte := BitVec.ofNat 8 ((a.toNat * b.toNat + 127) / 255)

/-- `lerp8(a, b, f) = (b * f + a * (255 - f) + 127) div 255` (44_tsp.md preamble). -/
def lerp8 (a b f : Byte) : Byte := BitVec.ofNat 8 ((b.toNat * f.toNat + a.toNat * (255 - f.toNat) + 127) / 255)

/-- Saturating sum of two channels. -/
def add8 (a b : Byte) : Byte := BitVec.ofNat 8 (min (a.toNat + b.toNat) 255)

/-- `255 - x`. -/
def inv8 (x : Byte) : Byte := BitVec.ofNat 8 (255 - x.toNat)

end Sys2Proof.Machine
end

