-- ==== Sys2Proof/Machine/Plane.lean ====
section
/-! DEFINITION. Triangle geometry in exact rationals: area, edge functions, weights, coverage, depth (42_isp.md rules
R301 to R308). -/

namespace Sys2Proof.Machine

/-- The plane triangle of a primitive in exact rationals (R301). -/
structure Plane where
  x0 : Rat
  y0 : Rat
  z0 : Rat
  x1 : Rat
  y1 : Rat
  z1 : Rat
  x2 : Rat
  y2 : Rat
  z2 : Rat
deriving DecidableEq, Repr

/-- The weights of a point (R303). -/
structure Weights where
  l0 : Rat
  l1 : Rat
  l2 : Rat
deriving DecidableEq, Repr

/-- No coordinate of the vertex is a NaN or an infinity (R301). -/
def vertexFinite (v : Vertex) : Bool := f32Finite v.x && f32Finite v.y && f32Finite v.z

/-- The plane of three vertices with finite coordinates (R301). -/
def planeOf (v0 v1 v2 : Vertex) : Plane :=
  ⟨f32Value v0.x, f32Value v0.y, f32Value v0.z, f32Value v1.x, f32Value v1.y, f32Value v1.z,
    f32Value v2.x, f32Value v2.y, f32Value v2.z⟩

/-- The edge function of the edge from `a` to `b` (R303). -/
def edge (xa ya xb yb px py : Rat) : Rat := (xb - xa) * (py - ya) - (yb - ya) * (px - xa)

/-- `area2` (R302). -/
def Plane.area2 (t : Plane) : Rat := (t.x1 - t.x0) * (t.y2 - t.y0) - (t.x2 - t.x0) * (t.y1 - t.y0)

/-- `E_0` (R303). -/
def Plane.e0 (t : Plane) (px py : Rat) : Rat := edge t.x1 t.y1 t.x2 t.y2 px py

/-- `E_1` (R303). -/
def Plane.e1 (t : Plane) (px py : Rat) : Rat := edge t.x2 t.y2 t.x0 t.y0 px py

/-- `E_2` (R303). -/
def Plane.e2 (t : Plane) (px py : Rat) : Rat := edge t.x0 t.y0 t.x1 t.y1 px py

/-- `lambda_k = E_k / area2` (R303); only for a triangle whose area is not 0. -/
def Plane.weights (t : Plane) (px py : Rat) : Weights :=
  ⟨t.e0 px py / t.area2, t.e1 px py / t.area2, t.e2 px py / t.area2⟩

/-- Coverage of a point, edges included (R307); a triangle of area 0 covers nothing. -/
def Plane.covers (t : Plane) (px py : Rat) : Bool :=
  if 0 < t.area2 then decide (0 ≤ t.e0 px py) && decide (0 ≤ t.e1 px py) && decide (0 ≤ t.e2 px py)
  else if t.area2 < 0 then decide (t.e0 px py ≤ 0) && decide (t.e1 px py ≤ 0) && decide (t.e2 px py ≤ 0)
  else false

/-- The 1/w of weights over a plane (R308, and `den` of R406). -/
def Plane.invW (t : Plane) (w : Weights) : Rat := w.l0 * t.z0 + w.l1 * t.z1 + w.l2 * t.z2

/-- The fragment depth `zf` at a point (R308). -/
def Plane.depth (t : Plane) (px py : Rat) : Word := rne32 (t.invW (t.weights px py))

/-- The sample point of a pixel, its column (R306). -/
def sampleX (s : State) (i : Fin 1024) : Rat := (screenX s i : Rat) + if halfOffset s then mkRat 1 2 else 0

/-- The sample point of a pixel, its row (R306). -/
def sampleY (s : State) (i : Fin 1024) : Rat := (screenY s i : Rat) + if halfOffset s then mkRat 1 2 else 0

/-- An attribute interpolated with perspective correction (R406). -/
def interpolate (t : Plane) (w : Weights) (a0 a1 a2 : Rat) : Rat :=
  if t.invW w = 0 then w.l0 * a0 + w.l1 * a1 + w.l2 * a2
  else (w.l0 * a0 * t.z0 + w.l1 * a1 * t.z1 + w.l2 * a2 * t.z2) / t.invW w

/-- An interpolated colour channel (R407). -/
def interpolateChannel (t : Plane) (w : Weights) (a0 a1 a2 : Byte) : Byte :=
  clamp255 (interpolate t w (a0.toNat : Rat) (a1.toNat : Rat) (a2.toNat : Rat) + mkRat 1 2).floor

/-- A colour over the plane triangle: interpolated, or with flat shading the third vertex's (R406, R407). -/
def interpolateColor (gouraud : Bool) (t : Plane) (w : Weights) (c0 c1 c2 : Color) : Color :=
  if gouraud then
    ⟨interpolateChannel t w c0.r c1.r c2.r, interpolateChannel t w c0.g c1.g c2.g,
      interpolateChannel t w c0.b c1.b c2.b, interpolateChannel t w c0.a c1.a c2.a⟩
  else c2

/-! ### The plane of a primitive being shaded

The ISP rasterizes only finite primitives of nonzero area, but a tag kept from an earlier entry is decoded from VRAM
as it stands (R401, R713), so the shader may meet any words. No rule gives those a value: they are free (log 12). -/

/-- A coordinate of a vertex being shaded. -/
def shadingCoordinate (w : Word) (s : State) : Rat × State :=
  if f32Finite w then (f32Value w, s) else drawRational s

/-- The plane of the primitive being shaded. -/
def shadingPlane (p : DrawParameters) (s : State) : Plane × State :=
  let a := shadingCoordinate p.v0.x s
  let b := shadingCoordinate p.v0.y a.2
  let c := shadingCoordinate p.v0.z b.2
  let d := shadingCoordinate p.v1.x c.2
  let e := shadingCoordinate p.v1.y d.2
  let f := shadingCoordinate p.v1.z e.2
  let g := shadingCoordinate p.v2.x f.2
  let h := shadingCoordinate p.v2.y g.2
  let k := shadingCoordinate p.v2.z h.2
  (⟨a.1, b.1, c.1, d.1, e.1, f.1, g.1, h.1, k.1⟩, k.2)

/-- The weights of the pixel over that plane (R405). -/
def shadingWeights (t : Plane) (px py : Rat) (s : State) : Weights × State :=
  if t.area2 = 0 then
    let a := drawRational s
    let b := drawRational a.2
    let c := drawRational b.2
    (⟨a.1, b.1, c.1⟩, c.2)
  else (t.weights px py, s)

end Sys2Proof.Machine
end

