-- ==== Sys2Proof/Machine/Tables.lean ====
section
/-! DEFINITION. The process-wide tables of `init()` (70_reset_and_hazards.md rules R703 to R705), as functions of
their indices (rule R59). -/

namespace Sys2Proof.Machine

/-- The loop of `twiddle_slow` (R704), one round per unit of fuel; it ends when both sizes are 0. -/
def twiddleLoop : Nat → Nat → Nat → Nat → Nat → Nat → Nat → Nat
  | 0, _, _, _, _, _, rv => rv
  | fuel + 1, x, y, xs, ys, sh, rv =>
    if xs = 0 ∧ ys = 0 then rv
    else
      let rv1 := if ys = 0 then rv else rv ||| ((y % 2) <<< sh)
      let sh1 := if ys = 0 then sh else sh + 1
      let rv2 := if xs = 0 then rv1 else rv1 ||| ((x % 2) <<< sh1)
      let sh2 := if xs = 0 then sh1 else sh1 + 1
      twiddleLoop fuel (if xs = 0 then x else x / 2) (if ys = 0 then y else y / 2) (xs / 2) (ys / 2) sh2 rv2

/-- `twiddle_slow(x, y, x_sz, y_sz)` (R704). The fuel covers every round: each halves both sizes. -/
def twiddleSlow (x y xs ys : Nat) : Nat :=
  twiddleLoop (Nat.log2 xs + Nat.log2 ys + 2) x y (xs / 2) (ys / 2) 0 0

/-- `detwiddle[k][s][i]` (R704): the bits of a U coordinate (`k = 0`) for a texture of V size `2^s`, or of a V
coordinate (`k = 1`) for U size `2^s`. -/
def detwiddle (k s i : Nat) : Nat :=
  if k = 0 then twiddleSlow i 0 1024 (2 ^ s) else twiddleSlow 0 i (2 ^ s) 1024

/-- `BM_SIN90[0..63]`. -/
def bmSinPart0 : List Nat :=
  [0, 1, 2, 2, 3, 4, 5, 5, 6, 7, 8, 9, 9, 10, 11, 12, 12, 13, 14, 15, 16, 16, 17, 18, 19, 19, 20,
   21, 22, 22, 23, 24, 25, 26, 26, 27, 28, 29, 29, 30, 31, 32, 32, 33, 34, 35, 35, 36, 37, 38, 38,
   39, 40, 41, 41, 42, 43, 44, 44, 45, 46, 46, 47, 48]

/-- `BM_SIN90[64..127]`. -/
def bmSinPart1 : List Nat :=
  [49, 49, 50, 51, 51, 52, 53, 54, 54, 55, 56, 56, 57, 58, 58, 59, 60, 61, 61, 62, 63, 63, 64, 65,
   65, 66, 67, 67, 68, 69, 69, 70, 71, 71, 72, 72, 73, 74, 74, 75, 76, 76, 77, 78, 78, 79, 79, 80,
   81, 81, 82, 82, 83, 84, 84, 85, 85, 86, 86, 87, 88, 88, 89, 89]

/-- `BM_SIN90[128..191]`. -/
def bmSinPart2 : List Nat :=
  [90, 90, 91, 91, 92, 93, 93, 94, 94, 95, 95, 96, 96, 97, 97, 98, 98, 99, 99, 100, 100, 101, 101,
   102, 102, 102, 103, 103, 104, 104, 105, 105, 106, 106, 106, 107, 107, 108, 108, 109, 109, 109,
   110, 110, 111, 111, 111, 112, 112, 112, 113, 113, 113, 114, 114, 114, 115, 115, 115, 116, 116,
   116, 117, 117]

/-- `BM_SIN90[192..255]`. -/
def bmSinPart3 : List Nat :=
  [117, 118, 118, 118, 118, 119, 119, 119, 120, 120, 120, 120, 121, 121, 121, 121, 122, 122, 122,
   122, 122, 123, 123, 123, 123, 123, 124, 124, 124, 124, 124, 124, 125, 125, 125, 125, 125, 125,
   125, 126, 126, 126, 126, 126, 126, 126, 126, 126, 126, 126, 127, 127, 127, 127, 127, 127, 127,
   127, 127, 127, 127, 127, 127, 127]

/-- `BM_SIN90[i] = round(127 sin(i/256 pi/2))` (R705; the values are log 27). -/
def bmSin90 (i : Nat) : Int :=
  ((bmSinPart0 ++ bmSinPart1 ++ bmSinPart2 ++ bmSinPart3).getD i 0 : Nat)

/-- `BM_COS90[i] = round(127 cos(i/256 pi/2))` (R705): the sine of the complement. -/
def bmCos90 (i : Nat) : Int := if i = 0 then 127 else bmSin90 (256 - i)

/-- `BM_COS360[i] = round(127 cos(i/256 2 pi))` (R705), quadrant by quadrant from the quarter-wave table. -/
def bmCos360 (i : Nat) : Int :=
  if i < 64 then bmCos90 (4 * i)
  else if i = 64 then 0
  else if i < 128 then -bmCos90 (4 * (128 - i))
  else if i = 128 then -127
  else if i < 192 then -bmCos90 (4 * (i - 128))
  else if i = 192 then 0
  else bmCos90 (4 * (256 - i))

end Sys2Proof.Machine
end

