-- ==== Sys2Proof/Machine/Texture.lean ====
section
/-! DEFINITION. The texture address generator, the texel decoders and the filter unit (44_tsp.md rules R410 to
R432). The operations work on the TSP's registers. -/

namespace Sys2Proof.Machine

/-- Change the TSP's registers. -/
def setTsp (f : TspUnit → TspUnit) (s : State) : State := { s with tsp := f s.tsp }

/-! ### Fields of the texture words -/

/-- The texel format is a palette format (R160: bits 26:21 are then PalSelector). -/
def isPalette (tcw : Word) : Bool := bits tcw 29 27 == 5 || bits tcw 29 27 == 6

/-- The texture is twiddled (R414): a palette format, or `ScanOrder = 0`. -/
def isTwiddled (tcw : Word) : Bool := isPalette tcw || !bit tcw 26

/-- `bu = TexU + 3` (R410). -/
def texBu (tsp : Word) : Nat := bits tsp 5 3 + 3

/-- `USize = 8 << TexU` (R410). -/
def texUSize (tsp : Word) : Nat := 2 ^ texBu tsp

/-- `VSize = 8 << TexV`, or `USize` for a mipmapped twiddled texture (R410). -/
def texVSize (tsp tcw : Word) : Nat :=
  if bit tcw 31 && isTwiddled tcw then texUSize tsp else 2 ^ (bits tsp 2 0 + 3)

/-! ### Mip level, addressing, texel index -/

/-- The sizes of level 0 (R410, R411). -/
def baseLevel (s : State) : State :=
  setTsp (fun t => { t with level := 0, nu := texUSize t.tspWord, nv := texVSize t.tspWord t.tcw }) s

/-- TCW_MIPMAPPED (R411): the level `MIP_LEVEL` names, at most `bu`, and its side; a stride-scan texture stays at
level 0. -/
def evalMip (s : State) : State :=
  if isTwiddled s.tsp.tcw then
    let d := min (Config.mipLevel s.tsp.params (pixelX s.pix) (pixelY s.pix)) (texBu s.tsp.tspWord)
    setTsp (fun t => { t with level := d, nu := texUSize t.tspWord / 2 ^ d, nv := texUSize t.tspWord / 2 ^ d }) s
  else baseLevel s

/-- The mip level and sizes the sampler uses (R411). -/
def setLevel (s : State) : State := if bit s.tsp.tcw 31 then evalMip s else baseLevel s

/-- `address(i, N, C, F)` (R413): clamp, mirror or wrap; clamp wins over mirror. -/
def addressTexel (i : Int) (n : Nat) (clampBit flipBit : Bool) : Nat :=
  if clampBit then (min (max i 0) ((n : Int) - 1)).toNat
  else if flipBit then
    let m := i % (2 * (n : Int))
    (if m < (n : Int) then m else 2 * (n : Int) - 1 - m).toNat
  else (i % (n : Int)).toNat

/-- Addressing on the U axis by the TSP word's ClampU and FlipU (R150, R413). -/
def addressU (s : State) (i : Int) : Nat := addressTexel i s.tsp.nu (bit s.tsp.tspWord 16) (bit s.tsp.tspWord 18)

/-- Addressing on the V axis by the TSP word's ClampV and FlipV (R150, R413). -/
def addressV (s : State) (i : Int) : Nat := addressTexel i s.tsp.nv (bit s.tsp.tspWord 15) (bit s.tsp.tspWord 17)

/-- TCW_TWIDDLED (R414): the texel index of the addressed coordinates in a twiddled level. -/
def evalTwiddled (s : State) : State :=
  setTsp (fun t => { t with index := detwiddle 0 (Nat.log2 t.nv) t.iu + detwiddle 1 (Nat.log2 t.nu) t.iv }) s

/-- The stride in texels of a stride-scan texture (R414). -/
def textureStride (s : State) (strideSel : Bool) : Nat :=
  if strideSel then bits (reg s .textControl) 4 0 * 32 else texUSize s.tsp.tspWord

/-- TCW_STRIDE_SCAN (R414): the texel index in a texture stored row by row. -/
def evalStrideScan (strideSel : Bool) (s : State) : State :=
  setTsp (fun t => { t with index := t.iv * textureStride s strideSel + t.iu }) s

/-- The texel index of the addressed coordinates by the TCW's scan order (R414). -/
def scanTexel (s : State) : State :=
  if isTwiddled s.tsp.tcw then evalTwiddled s else evalStrideScan (bit s.tsp.tcw 25) s

/-- `moff16(d)` (R416): the texel at which the level starts. -/
def mipOffset16 (s : State) : Nat :=
  if bit s.tsp.tcw 31 then 3 + (4 ^ (texBu s.tsp.tspWord - s.tsp.level) - 1) / 3 else 0

/-- `poff(bits, d)` (R416): the byte at which the level of a palette texture starts. -/
def paletteOffset (s : State) (nbits : Nat) : Nat :=
  if bit s.tsp.tcw 31 then Config.palMipOffset nbits (texBu s.tsp.tspWord - s.tsp.level) else 0

/-! ### Texel decoding -/

/-- A field of a 16-bit texel. -/
def hbits (t : Half) (hi lo : Nat) : Nat := t.toNat / 2 ^ lo % 2 ^ (hi + 1 - lo)

/-- ARGB1555 (R421). -/
def decodeArgb1555 (t : Half) : Color :=
  ⟨BitVec.ofNat 8 (hbits t 14 10 * 8), BitVec.ofNat 8 (hbits t 9 5 * 8), BitVec.ofNat 8 (hbits t 4 0 * 8),
    if hbits t 15 15 = 1 then 0xFF else 0x00⟩

/-- RGB565 (R422). -/
def decodeRgb565 (t : Half) : Color :=
  ⟨BitVec.ofNat 8 (hbits t 15 11 * 8), BitVec.ofNat 8 (hbits t 10 5 * 4), BitVec.ofNat 8 (hbits t 4 0 * 8), 0xFF⟩

/-- ARGB4444 (R423). -/
def decodeArgb4444 (t : Half) : Color :=
  ⟨BitVec.ofNat 8 (hbits t 11 8 * 17), BitVec.ofNat 8 (hbits t 7 4 * 17), BitVec.ofNat 8 (hbits t 3 0 * 17),
    BitVec.ofNat 8 (hbits t 15 12 * 17)⟩

/-- ARGB8888 of a palette entry (R424). -/
def decodeArgb8888 (t : Word) : Color := unpackColor t

/-- The colour of luminance `y` and chrominances `u`, `v` (R425); `div` truncates toward zero. -/
def decodeYuv (y u v : Nat) : Color :=
  let yu : Int := (u : Int) - 128
  let yv : Int := (v : Int) - 128
  ⟨clamp255 ((y : Int) + (yv * 11).tdiv 8), clamp255 ((y : Int) - (yu * 11 + yv * 22).tdiv 32),
    clamp255 ((y : Int) + (yu * 110).tdiv 64), 0xFF⟩

/-- A palette entry decoded by a format code of `PAL_RAM_CTRL` (R426). -/
def decodePaletteEntry (code : Nat) (e : Word) : Color :=
  match code with
  | 0 => decodeArgb1555 (BitVec.ofNat 16 e.toNat)
  | 1 => decodeRgb565 (BitVec.ofNat 16 e.toNat)
  | 2 => decodeArgb4444 (BitVec.ofNat 16 e.toNat)
  | _ => decodeArgb8888 e

/-- The PAL_ code: decode the palette entry the TSP holds (R426). -/
def evalPalette (code : Nat) (s : State) : State :=
  setTsp (fun t => { t with texel := decodePaletteEntry code t.palEntry }) s

/-- Look a palette index up and decode the entry by `PAL_RAM_CTRL[1:0]` (R426). -/
def readPalette (index : Nat) (s : State) : State :=
  evalPalette (bits (reg s .palRamCtrl) 1 0) (setTsp (fun t => { t with palEntry := reg s (.paletteRam index) }) s)

/-- Set the addressed texel coordinates. -/
def setTexel (iu iv : Nat) (s : State) : State := setTsp (fun t => { t with iu := iu, iv := iv }) s

/-- `T16` of the addressed texel of a 16-bit format with base `addr * 8` (R414, R416, R98). -/
def readTexel16 (addr : Nat) (s : State) : Half × State :=
  let s1 := scanTexel s
  let a := addr * 8 + 2 * (mipOffset16 s1 + s1.tsp.index)
  (texel16 s1.vram a, touchAll [a, a + 1] s1)

/-- FMT_ARGB1555: fetch and decode the addressed texel (R420, R421). -/
def evalArgb1555 (addr : Nat) (s : State) : State :=
  let r := readTexel16 addr s
  setTsp (fun t => { t with texel := decodeArgb1555 r.1 }) r.2

/-- FMT_RGB565 (R420, R422). -/
def evalRgb565 (addr : Nat) (s : State) : State :=
  let r := readTexel16 addr s
  setTsp (fun t => { t with texel := decodeRgb565 r.1 }) r.2

/-- FMT_ARGB4444 (R420, R423). -/
def evalArgb4444 (addr : Nat) (s : State) : State :=
  let r := readTexel16 addr s
  setTsp (fun t => { t with texel := decodeArgb4444 r.1 }) r.2

/-- FMT_YUV422 (R425): the even and the odd texel of the pair, in that order; luminance from the own texel. -/
def evalYuv422 (addr : Nat) (s : State) : State :=
  let iu := s.tsp.iu
  let iv := s.tsp.iv
  let tEven := readTexel16 addr (setTexel (iu / 2 * 2) iv s)
  let tOdd := readTexel16 addr (setTexel (iu / 2 * 2 + 1) iv tEven.2)
  let own := if iu % 2 = 0 then tEven.1 else tOdd.1
  setTsp (fun t =>
    { t with iu := iu, texel := decodeYuv (hbits own 15 8) (hbits tEven.1 7 0) (hbits tOdd.1 7 0) }) tOdd.2

/-- FMT_BUMP (R427): the open parameter `BUMP_TEXEL`. -/
def evalBump (addr : Nat) (s : State) : State :=
  let r := readTexel16 addr s
  setTsp (fun t =>
    { t with texel := Config.bumpTexel r.1 s.tsp.params (pixelX s.pix) (pixelY s.pix) }) r.2

/-- FMT_PAL4 (R426): nibble `n mod 2` of its byte, the low nibble first. Palette textures are always twiddled. -/
def evalPal4 (sel addr : Nat) (s : State) : State :=
  let s1 := evalTwiddled s
  let a := addr * 8 + paletteOffset s1 4 + s1.tsp.index / 2
  let b := (texel8 s1.vram a).toNat
  let nibble := if s1.tsp.index % 2 = 0 then b % 16 else b / 16
  readPalette (16 * sel + nibble) (touch a s1)

/-- FMT_PAL8 (R426). -/
def evalPal8 (sel addr : Nat) (s : State) : State :=
  let s1 := evalTwiddled s
  let a := addr * 8 + paletteOffset s1 8 + s1.tsp.index
  let b := (texel8 s1.vram a).toNat
  readPalette (256 * (sel / 16) + b) (touch a s1)

/-- `fetch(tcw, iu, iv)` by PixelFmt (R420). Format 7 does not come here: the shader refuses it first (R415). -/
def fetchTexel (iu iv : Nat) (s : State) : State :=
  let w := s.tsp.tcw
  let addr := bits w 20 0
  let s1 := setTexel iu iv s
  match bits w 29 27 with
  | 0 => evalArgb1555 addr s1
  | 1 => evalRgb565 addr s1
  | 2 => evalArgb4444 addr s1
  | 3 => evalYuv422 addr s1
  | 4 => evalBump addr s1
  | 5 => evalPal4 (bits w 26 21) addr s1
  | 6 => evalPal8 (bits w 26 21) addr s1
  | _ => s1

/-! ### Filtering -/

/-- FILTER_POINT (R412, R430). -/
def evalPoint (s : State) : State :=
  let iu := addressU s (s.tsp.u * (s.tsp.nu : Rat)).floor
  let iv := addressV s (s.tsp.v * (s.tsp.nv : Rat)).floor
  let s1 := fetchTexel iu iv s
  setTsp (fun t => { t with tex := t.texel }) s1

/-- One channel of the bilinear sum (R431). -/
def bilinearChannel (t00 t10 t01 t11 : Byte) (wu wv : Nat) : Byte :=
  BitVec.ofNat 8
    ((t00.toNat * (256 - wu) * (256 - wv) + t10.toNat * wu * (256 - wv) + t01.toNat * (256 - wu) * wv
      + t11.toNat * wu * wv) / 2 ^ 16)

/-- The bilinear mix of four texels (R431). -/
def bilinearColor (t00 t10 t01 t11 : Color) (wu wv : Nat) : Color :=
  ⟨bilinearChannel t00.r t10.r t01.r t11.r wu wv, bilinearChannel t00.g t10.g t01.g t11.g wu wv,
    bilinearChannel t00.b t10.b t01.b t11.b wu wv, bilinearChannel t00.a t10.a t01.a t11.a wu wv⟩

/-- The bilinear codes of FILTER (R431): four texels in the order t00, t10, t01, t11, mixed with 8-bit weights. -/
def evalBilinear (s : State) : State :=
  let fu := s.tsp.u * (s.tsp.nu : Rat) - mkRat 1 2
  let fv := s.tsp.v * (s.tsp.nv : Rat) - mkRat 1 2
  let i0 := fu.floor
  let j0 := fv.floor
  let wu := ((fu - (i0 : Rat)) * 256).floor.toNat
  let wv := ((fv - (j0 : Rat)) * 256).floor.toNat
  let s00 := fetchTexel (addressU s i0) (addressV s j0) s
  let s10 := fetchTexel (addressU s (i0 + 1)) (addressV s j0) s00
  let s01 := fetchTexel (addressU s i0) (addressV s (j0 + 1)) s10
  let s11 := fetchTexel (addressU s (i0 + 1)) (addressV s (j0 + 1)) s01
  setTsp (fun t =>
    { t with tex := bilinearColor s00.tsp.texel s10.tsp.texel s01.tsp.texel s11.tsp.texel wu wv }) s11

/-- The FILTER code (R154): 0 point sampling, every other value bilinear. -/
def evalFilter (code : Nat) (s : State) : State := if code = 0 then evalPoint s else evalBilinear s

end Sys2Proof.Machine
end

