-- ==== Sys2Proof/Machine/Shade.lean ====
section
/-! DEFINITION. The TSP's shading pipeline: attribute interpolation, colour combination, fog, colour clamp, blending
(44_tsp.md rules R402 to R409, R440 to R461). -/

namespace Sys2Proof.Machine

/-! ### Colour combination -/

/-- `texture_shade(ShadInstr, tex, base)` (R440). -/
def textureShade (code : Nat) (tex base : Color) : Color :=
  match code with
  | 0 => tex
  | 1 => ⟨mul8 tex.r base.r, mul8 tex.g base.g, mul8 tex.b base.b, tex.a⟩
  | 2 => ⟨lerp8 base.r tex.r tex.a, lerp8 base.g tex.g tex.a, lerp8 base.b tex.b tex.a, base.a⟩
  | _ => ⟨mul8 tex.r base.r, mul8 tex.g base.g, mul8 tex.b base.b, mul8 tex.a base.a⟩

/-- The SHAD code: combine the texture colour and the base colour the TSP holds (R440). -/
def evalShad (code : Nat) (s : State) : State := setTsp (fun t => { t with c := textureShade code t.tex t.base }) s

/-- `add_offset(c, o)` (R441). -/
def addOffset (c o : Color) : Color := ⟨add8 c.r o.r, add8 c.g o.g, add8 c.b o.b, c.a⟩

/-- One channel of `color_clamp` (R450): the maximum wins over the minimum. -/
def clampChannel (x lo hi : Byte) : Byte := BitVec.ofNat 8 (min (max x.toNat lo.toNat) hi.toNat)

/-- `color_clamp(c)` (R450). -/
def colorClamp (s : State) (c : Color) : Color :=
  let lo := unpackColor (reg s .fogClampMin)
  let hi := unpackColor (reg s .fogClampMax)
  ⟨clampChannel c.r lo.r hi.r, clampChannel c.g lo.g hi.g, clampChannel c.b lo.b hi.b, clampChannel c.a lo.a hi.a⟩

/-! ### Fog -/

/-- `density` of `FOG_DENSITY` (R446): mantissa over 128, times two to the signed exponent byte. -/
def fogDensity (w : Word) : Rat :=
  let e : Int := if bits w 7 0 < 128 then (bits w 7 0 : Int) else (bits w 7 0 : Int) - 256
  mkRat (bits w 15 8 : Int) 128 * pow2 e

/-- The clamped fog coordinate `fw` of a finite 1/w (R446), a binary32 pattern. -/
def fogCoordinate (s : State) (zf : Word) : Word :=
  rne32 (min (max (fogDensity (reg s .fogDensity) * f32Value zf) 1) (f32Value 0x437FFFFF))

/-- `idx` of rule R446: three exponent bits above four mantissa bits. -/
def fogIndex (b : Word) : Nat := (bits b 30 23 + 1) % 8 * 16 + bits b 22 19

/-- The fog table between an entry's two values (R446). -/
def fogInterpolate (entry : Word) (bf : Nat) : Byte :=
  BitVec.ofNat 8 ((bits entry 7 0 * bf + bits entry 15 8 * (255 - bf)) / 2 ^ 8)

/-- `fog_table_alpha(zf)` of a finite 1/w (R446). -/
def fogTableAlpha (s : State) (zf : Word) : Byte :=
  let b := fogCoordinate s zf
  fogInterpolate (reg s (.fogTable (fogIndex b))) (bits b 18 11)

/-- The fog alpha of the TSP's 1/w. A 1/w that is not finite, which only a quad's extrapolated plane or a free value
can give, has no alpha in any rule: a free value (log 14). -/
def fogAlpha (s : State) : Byte × State :=
  if f32Finite s.tsp.zf then (fogTableAlpha s s.tsp.zf, s) else drawByte s

/-- The colour channels moved towards a fog colour register, alpha kept (R445). -/
def fogBlend (c : Color) (w : Word) (f : Byte) : Color :=
  let k := unpackColor w
  ⟨lerp8 c.r k.r f, lerp8 c.g k.g f, lerp8 c.b k.b f, c.a⟩

/-- The FOG code on the colour the TSP holds (R445). -/
def evalFog (code : Nat) (s : State) : State :=
  match code with
  | 0 =>
    let f := fogAlpha s
    setTsp (fun t => { t with c := fogBlend t.c (reg s .fogColRam) f.1 }) f.2
  | 1 => setTsp (fun t => { t with c := fogBlend t.c (reg s .fogColVert) t.offset.a }) s
  | 2 => s
  | _ =>
    let f := fogAlpha s
    let k := unpackColor (reg s .fogColRam)
    setTsp (fun t => { t with c := ⟨k.r, k.g, k.b, f.1⟩ }) f.2

/-! ### Blending -/

/-- A colour with the same value in every channel. -/
def grey (x : Byte) : Color := ⟨x, x, x, x⟩

/-- `255 - c` in every channel. -/
def invColor (c : Color) : Color := ⟨inv8 c.r, inv8 c.g, inv8 c.b, inv8 c.a⟩

/-- A blend factor (R460): `other` is the destination for the source factor and the source for the destination
factor; `s` and `d` are source and destination. -/
def blendFactor (code : Nat) (other s d : Color) : Color :=
  match code with
  | 0 => grey 0
  | 1 => grey 255
  | 2 => other
  | 3 => invColor other
  | 4 => grey s.a
  | 5 => grey (inv8 s.a)
  | 6 => grey d.a
  | _ => grey (inv8 d.a)

/-- The SRC code: `mul8(s, SF)` of the shaded colour and the accumulator at the current pixel (R460, R461). -/
def evalSrc (code : Nat) (s : State) : State :=
  let d := (pixel s s.pix).accum
  setTsp (fun t => { t with srcTerm := zipColor mul8 t.c (blendFactor code d t.c d) }) s

/-- The DST code: add `mul8(d, DF)` to the source term, saturating, and store the sum in the accumulator at the
current pixel (R460, R461, R462). -/
def evalDst (code : Nat) (s : State) : State :=
  let d := (pixel s s.pix).accum
  let out := zipColor add8 s.tsp.srcTerm (zipColor mul8 d (blendFactor code s.tsp.c s.tsp.c d))
  updatePixel s.pix (fun p => { p with accum := out }) s

/-- `accum <- blend(tsp, c, accum)` at the current pixel (R461). -/
def blendPixel (s : State) : State := evalDst (bits s.tsp.tspWord 28 26) (evalSrc (bits s.tsp.tspWord 31 29) s)

/-! ### The pipeline -/

/-- The words of a parameter set (R402). -/
def setTspWord (h : Header) (second : Bool) : Word := if second then h.tsp2 else h.tsp

/-- The TCW of a parameter set (R402). -/
def setTcw (h : Header) (second : Bool) : Word := if second then h.tcw2 else h.tcw

/-- The U pattern of a vertex in a set. -/
def setU (v : Vertex) (second : Bool) : Word := if second then v.u1 else v.u

/-- The V pattern of a vertex in a set. -/
def setV (v : Vertex) (second : Bool) : Word := if second then v.v1 else v.v

/-- The base colour of a vertex in a set. -/
def setBase (v : Vertex) (second : Bool) : Color := unpackColor (if second then v.base1 else v.base)

/-- The offset colour of a vertex in a set, where the ISP word's `Offset` says it is present. -/
def setOffset (v : Vertex) (second : Bool) : Color := unpackColor (if second then v.offset1 else v.offset)

/-- Every U and V of the set at the plane triangle's vertices is finite (R409). -/
def uvFinite (p : DrawParameters) (second : Bool) : Bool :=
  f32Finite (setU p.v0 second) && f32Finite (setV p.v0 second) && f32Finite (setU p.v1 second)
    && f32Finite (setV p.v1 second) && f32Finite (setU p.v2 second) && f32Finite (setV p.v2 second)

/-- Interpolate the texture coordinates, or report `NumericDomain` and take 0 (R406, R409). Without `Texture` they
are absent and never read (R405). -/
def interpolateUv (p : DrawParameters) (second : Bool) (t : Plane) (w : Weights) (s : State) : State :=
  if bit p.hdr.isp 25 then
    if uvFinite p second then
      setTsp (fun r =>
        { r with
          u := interpolate t w (f32Value (setU p.v0 second)) (f32Value (setU p.v1 second)) (f32Value (setU p.v2 second))
          v := interpolate t w (f32Value (setV p.v0 second)) (f32Value (setV p.v1 second))
            (f32Value (setV p.v2 second)) }) s
    else setTsp (fun r => { r with u := 0, v := 0 }) (report (.numericDomain p.tag) s)
  else s

/-- The base colour's alpha is 255 when `UseAlpha = 0` (R408). -/
def applyUseAlpha (tsp : Word) (c : Color) : Color := if bit tsp 20 then c else { c with a := 255 }

/-- The texel alpha is 255 when `IgnoreTexA = 1` (R404). -/
def applyIgnoreTexA (tsp : Word) (c : Color) : Color := if bit tsp 19 then { c with a := 255 } else c

/-- Interpolate the attributes of a set at the current pixel into the TSP's registers (R405 to R408). An absent offset
colour is `(0, 0, 0, 0)` whatever the vertices hold (R405). -/
def interpolateSet (p : DrawParameters) (second : Bool) (s : State) : State :=
  let i := s.pix
  let t := shadingPlane p s
  let w := shadingWeights t.1 (sampleX s i) (sampleY s i) t.2
  let gouraud := bit p.hdr.isp 23
  let tspW := setTspWord p.hdr second
  let s1 := setTsp (fun r =>
    { r with
      params := p
      tspWord := tspW
      tcw := setTcw p.hdr second
      zf := rne32 (t.1.invW w.1)
      base := applyUseAlpha tspW
        (interpolateColor gouraud t.1 w.1 (setBase p.v0 second) (setBase p.v1 second) (setBase p.v2 second))
      offset :=
        if bit p.hdr.isp 24 then
          interpolateColor gouraud t.1 w.1 (setOffset p.v0 second) (setOffset p.v1 second) (setOffset p.v2 second)
        else Color.zero }) w.2
  interpolateUv p second t.1 w.1 s1

/-- Sample the texture of the set whose words the TSP holds, and combine it with the base colour (R404, R415). A TCW
with both VQ_Comp = 1 and PixelFmt = 7 is refused as `vqCompressed`: R415 orders no reasons (log 30, DESIGN CHOICE). -/
def textureStage (s : State) : Res :=
  let tspW := s.tsp.tspWord
  let tcw := s.tsp.tcw
  if bit tcw 30 then .refused .vqCompressed
  else if bits tcw 29 27 = 7 then .refused .pixelFmtReserved
  else
    let s1 := evalFilter (bits tspW 14 13) (setLevel s)
    let s2 := setTsp (fun t => { t with tex := applyIgnoreTexA tspW t.tex }) s1
    .next (evalShad (bits tspW 7 6) s2)

/-- The steps after texturing (R404): offset colour, fog, colour clamp. -/
def colourStage (isp : Word) (s : State) : State :=
  let tspW := s.tsp.tspWord
  let s1 := if bit isp 24 then setTsp (fun t => { t with c := addOffset t.c t.offset }) s else s
  let s2 := evalFog (bits tspW 23 22) s1
  if bit tspW 21 then setTsp (fun t => { t with c := colorClamp s2 t.c }) s2 else s2

/-- Shade the current pixel with one parameter set (R404). -/
def shadeSet (p : DrawParameters) (second : Bool) (s : State) : Res :=
  let s1 := interpolateSet p second s
  andThen (if bit p.hdr.isp 25 then textureStage s1 else .next (setTsp (fun t => { t with c := t.base }) s1))
    fun s2 => .next (colourStage p.hdr.isp s2)

/-- `shade(P, lx, ly)` (R402, R404): the TSP ends with the selected set's colour and TSP word. Both sets of a
two-volume primitive are shaded, the first set first (log 17). -/
def shade (p : DrawParameters) (i : Fin 1024) (s : State) : Res :=
  andThen (shadeSet p false { s with pix := i }) fun s1 =>
    if p.hdr.twoVolume then
      andThen (shadeSet p true s1) fun s2 =>
        if inside s2 i then .next s2
        else .next (setTsp (fun t => { t with c := s1.tsp.c, tspWord := s1.tsp.tspWord }) s2)
    else .next s1

/-- `shade_inline(P, lx, ly)` (R403): shade and blend at once; no tag, no status, no alpha test. -/
def shadeInline (p : DrawParameters) (i : Fin 1024) (s : State) : Res :=
  andThen (shade p i s) fun s1 => .next (blendPixel s1)

/-- What `render_param_tags(m)` does at one pixel (R400, R456). -/
def renderTag (m : RenderMode) (i : Fin 1024) (s : State) : Res :=
  let px := pixel s i
  if isBackground s px.tag || px.written then .next s
  else
    let r := resolve px.tag s
    andThen (shade r.1 i r.2) fun s1 =>
      if m = .punchthroughPass0 ∧ s1.tsp.c.a.toNat < ptAlphaRef s1 then .next (updatePixel i (zHole (bgTag s1)) s1)
      else .next (updatePixel i setWritten (blendPixel s1))

/-- `render_param_tags(m)` (R400). -/
def renderParamTags (m : RenderMode) (s : State) : Res := forEach (renderTag m) allPixels s

end Sys2Proof.Machine
end

