-- ==== Sys2Proof/Machine/Raster.lean ====
section
/-! DEFINITION. The ISP rasterizer: primitive setup and the per-pixel rules of the render modes (42_isp.md rules R301
to R328). -/

namespace Sys2Proof.Machine

/-- OPAQUE and the punch-through modes write a fragment that passed (R321, R322): depth unless `ZWriteDis`, the tag,
and WRITTEN cleared. -/
def writeFragment (isp tag zf : Word) (p : Pixel) : Pixel :=
  clearWritten { p with depthTest := if bit isp 26 then p.depthTest else zf, tag := tag }

/-- The auto-sort peel's after-test (R326). -/
def peelAfter (zf tag : Word) (p : Pixel) : Bool :=
  f32Lt p.depthRef zf || (f32Eq zf p.depthRef && decide (tag.toNat < p.tagRef.toNat))

/-- The auto-sort peel's before-test (R326). -/
def peelBefore (zf tag : Word) (p : Pixel) : Bool :=
  f32Lt zf p.depthTest || (f32Eq zf p.depthTest && decide (p.tag.toNat < tag.toNat))

/-- Bring a fragment to the ISP and run the DepthMode code on it (R325). -/
def testFragment (isp zf : Word) (i : Fin 1024) (s : State) : State :=
  evalDepth (bits isp 31 29) { s with pix := i, isp := { s.isp with zf := zf } }

/-- R321. -/
def pixelOpaque (isp tag zf : Word) (i : Fin 1024) (s : State) : State :=
  let s1 := testFragment isp zf i s
  if s1.isp.pass then updatePixel i (writeFragment isp tag zf) s1 else s1

/-- R322. -/
def pixelPass0 (isp tag zf : Word) (i : Fin 1024) (s : State) : State :=
  let s1 := testFragment isp zf i s
  if s1.isp.pass && f32Lt zf (pixel s i).depthRef then
    { updatePixel i (writeFragment isp tag zf) s1 with moreToDraw := true }
  else s1

/-- R323. -/
def pixelPassN (isp tag zf : Word) (i : Fin 1024) (s : State) : State :=
  let s1 := testFragment isp zf i s
  if s1.isp.pass && f32Lt zf (pixel s i).depthRef && f32Lt (pixel s i).depthPrev zf then
    { updatePixel i (writeFragment isp tag zf) s1 with moreToDraw := true }
  else s1

/-- R326: DepthMode and ZWriteDis are ignored. -/
def pixelAutosort (tag zf : Word) (i : Fin 1024) (s : State) : State :=
  if peelAfter zf tag (pixel s i) && peelBefore zf tag (pixel s i) then
    { updatePixel i (fun p => clearWritten { p with depthTest := zf, tag := tag }) s with moreToDraw := true }
  else s

/-- R328: bit 0 is set where the fragment lies in front of the stored surface. -/
def pixelModifier (zf : Word) (i : Fin 1024) (s : State) : State :=
  if f32Lt (pixel s i).depthTest zf then updatePixel i (fun p => { p with stencil := p.stencil ||| 0x01 }) s else s

/-- R327: a fragment that passes is shaded and blended at once. -/
def pixelPresort (p : DrawParameters) (zf : Word) (i : Fin 1024) (s : State) : Res :=
  let s1 := testFragment p.hdr.isp zf i s
  if s1.isp.pass then shadeInline (shadingParameters p) i s1 else .next s1

/-- `pixel_rule(mode, hdr, tag, zf, lx, ly)` (R320, R204). -/
def pixelRule (p : DrawParameters) (zf : Word) (i : Fin 1024) (s : State) : Res :=
  match s.mode with
  | .opaqueMode => .next (pixelOpaque p.hdr.isp p.tag zf i s)
  | .punchthroughPass0 => .next (pixelPass0 p.hdr.isp p.tag zf i s)
  | .punchthroughPassN => .next (pixelPassN p.hdr.isp p.tag zf i s)
  | .punchthroughMv => .refused .punchthroughMvTraversal
  | .translucentAutosort => .next (pixelAutosort p.tag zf i s)
  | .translucentPresort => pixelPresort p zf i s
  | .modifier => .next (pixelModifier zf i s)

/-- Visit one pixel of a primitive: apply the mode's rule if the primitive covers its sample point (R307). -/
def visitPixel (p : DrawParameters) (covers : Rat → Rat → Bool) (plane : Plane) (i : Fin 1024) (s : State) : Res :=
  if covers (sampleX s i) (sampleY s i) then pixelRule p (plane.depth (sampleX s i) (sampleY s i)) i s
  else .next s

/-- Rasterize a primitive whose coordinates are finite: degenerate test, cull, cache, pixels (R304, R305, R320). The
plane is that of `v0, v1, v2`; the coverage is the caller's. -/
def rasterizePlane (p : DrawParameters) (covers : Rat → Rat → Bool) (s : State) : Res :=
  let plane := planeOf p.v0 p.v1 p.v2
  if plane.area2 = 0 then .next (report (.numericDomain p.tag) s)
  else
    let s1 := evalCull (bits p.hdr.isp 28 27) { s with isp := { s.isp with area2 := plane.area2 } }
    if s1.isp.culled then .next s1
    else
      let s2 := if s1.mode = .modifier then s1 else cacheInsert p s1
      forEach (visitPixel p covers plane) allPixels s2

/-- `rasterize_triangle(tri, hdr, tag)` (R320). -/
def rasterizeTriangle (hdr : Header) (v0 v1 v2 : Vertex) (tag : Word) (s : State) : Res :=
  if vertexFinite v0 && vertexFinite v1 && vertexFinite v2 then
    rasterizePlane ⟨hdr, v0, v1, v2, none, tag⟩ (planeOf v0 v1 v2).covers s
  else .next (report (.numericDomain tag) s)

/-- The coverage of a quad (R310): the union of the triangles `(v0, v1, v3)` and `(v1, v2, v3)`; a pixel in both is
visited once (R311). -/
def quadCovers (v0 v1 v2 v3 : Vertex) (px py : Rat) : Bool :=
  (planeOf v0 v1 v3).covers px py || (planeOf v1 v2 v3).covers px py

/-- `rasterize_quad((v0, v1, v2, v3), hdr, tag)` (R310, R320). -/
def rasterizeQuad (hdr : Header) (v0 v1 v2 v3 : Vertex) (tag : Word) (s : State) : Res :=
  if vertexFinite v0 && vertexFinite v1 && vertexFinite v2 && vertexFinite v3 then
    rasterizePlane ⟨hdr, v0, v1, v2, some v3, tag⟩ (quadCovers v0 v1 v2 v3) s
  else .next (report (.numericDomain tag) s)

/-- `fold_after_block(isp)` in MODIFIER mode (R354). -/
def foldAfterBlock (isp : Word) (s : State) : Res :=
  if s.mode = .modifier then evalVolume (bits isp 31 29) s else .next s

end Sys2Proof.Machine
end

