-- ==== Sys2Proof/Machine/Codes.lean ====
section
/-! DEFINITION. The meanings of the operand codes of the ISP word, the modifier word, the TSP word, the TCW and
`PAL_RAM_CTRL`: each is its unit's operation on the unit's registers at the current pixel, the same operation the
object-list entries and the tag pass run with the code of the words they read. -/

namespace Sys2Proof.Machine

/-! ### DepthMode (R147, R325) -/

/-- DEPTH_NEVER. -/
def execDepthNever (s : State) : Res := .next (evalDepth 0 s)
/-- DEPTH_LESS. -/
def execDepthLess (s : State) : Res := .next (evalDepth 1 s)
/-- DEPTH_EQUAL. -/
def execDepthEqual (s : State) : Res := .next (evalDepth 2 s)
/-- DEPTH_LESSEQUAL. -/
def execDepthLessequal (s : State) : Res := .next (evalDepth 3 s)
/-- DEPTH_GREATER. -/
def execDepthGreater (s : State) : Res := .next (evalDepth 4 s)
/-- DEPTH_NOTEQUAL. -/
def execDepthNotequal (s : State) : Res := .next (evalDepth 5 s)
/-- DEPTH_GREATEREQUAL. -/
def execDepthGreaterequal (s : State) : Res := .next (evalDepth 6 s)
/-- DEPTH_ALWAYS. -/
def execDepthAlways (s : State) : Res := .next (evalDepth 7 s)

/-! ### CullMode (R148, R305) -/

/-- CULL_NONE. -/
def execCullNone (s : State) : Res := .next (evalCull 0 s)
/-- CULL_SMALL. -/
def execCullSmall (s : State) : Res := .next (evalCull 1 s)
/-- CULL_NEGATIVE. -/
def execCullNegative (s : State) : Res := .next (evalCull 2 s)
/-- CULL_POSITIVE. -/
def execCullPositive (s : State) : Res := .next (evalCull 3 s)

/-! ### VolumeMode (R352 to R354); the CullMode of the same word is acted on before any pixel (R305) -/

/-- VOL_NONE. -/
def execVolNone (_cull : Nat) (s : State) : Res := evalVolume 0 s
/-- VOL_OR. -/
def execVolOr (_cull : Nat) (s : State) : Res := evalVolume 1 s
/-- VOL_AND. -/
def execVolAnd (_cull : Nat) (s : State) : Res := evalVolume 2 s
/-- VOL_RESERVED_3: refused (R354). -/
def execVolReserved3 (s : State) : Res := evalVolume 3 s
/-- VOL_RESERVED_4: refused (R354). -/
def execVolReserved4 (s : State) : Res := evalVolume 4 s
/-- VOL_RESERVED_5: refused (R354). -/
def execVolReserved5 (s : State) : Res := evalVolume 5 s
/-- VOL_RESERVED_6: refused (R354). -/
def execVolReserved6 (s : State) : Res := evalVolume 6 s
/-- VOL_RESERVED_7: refused (R354). -/
def execVolReserved7 (s : State) : Res := evalVolume 7 s

/-! ### SrcInstr (R460, R461) -/

/-- SRC_ZERO. -/
def execSrcZero (s : State) : Res := .next (evalSrc 0 s)
/-- SRC_ONE. -/
def execSrcOne (s : State) : Res := .next (evalSrc 1 s)
/-- SRC_OTHER. -/
def execSrcOther (s : State) : Res := .next (evalSrc 2 s)
/-- SRC_INVOTHER. -/
def execSrcInvother (s : State) : Res := .next (evalSrc 3 s)
/-- SRC_SRCALPHA. -/
def execSrcSrcalpha (s : State) : Res := .next (evalSrc 4 s)
/-- SRC_INVSRCALPHA. -/
def execSrcInvsrcalpha (s : State) : Res := .next (evalSrc 5 s)
/-- SRC_DSTALPHA. -/
def execSrcDstalpha (s : State) : Res := .next (evalSrc 6 s)
/-- SRC_INVDSTALPHA. -/
def execSrcInvdstalpha (s : State) : Res := .next (evalSrc 7 s)

/-! ### DstInstr (R460, R461) -/

/-- DST_ZERO. -/
def execDstZero (s : State) : Res := .next (evalDst 0 s)
/-- DST_ONE. -/
def execDstOne (s : State) : Res := .next (evalDst 1 s)
/-- DST_OTHER. -/
def execDstOther (s : State) : Res := .next (evalDst 2 s)
/-- DST_INVOTHER. -/
def execDstInvother (s : State) : Res := .next (evalDst 3 s)
/-- DST_SRCALPHA. -/
def execDstSrcalpha (s : State) : Res := .next (evalDst 4 s)
/-- DST_INVSRCALPHA. -/
def execDstInvsrcalpha (s : State) : Res := .next (evalDst 5 s)
/-- DST_DSTALPHA. -/
def execDstDstalpha (s : State) : Res := .next (evalDst 6 s)
/-- DST_INVDSTALPHA. -/
def execDstInvdstalpha (s : State) : Res := .next (evalDst 7 s)

/-! ### FogCtrl (R445) -/

/-- FOG_TABLE. -/
def execFogTable (s : State) : Res := .next (evalFog 0 s)
/-- FOG_VERTEX. -/
def execFogVertex (s : State) : Res := .next (evalFog 1 s)
/-- FOG_NONE. -/
def execFogNone (s : State) : Res := .next (evalFog 2 s)
/-- FOG_TABLEALPHA. -/
def execFogTablealpha (s : State) : Res := .next (evalFog 3 s)

/-! ### FilterMode (R154, R430, R431) -/

/-- FILTER_POINT. -/
def execFilterPoint (s : State) : Res := .next (evalFilter 0 s)
/-- FILTER_BILINEAR_1. -/
def execFilterBilinear1 (s : State) : Res := .next (evalFilter 1 s)
/-- FILTER_BILINEAR_2. -/
def execFilterBilinear2 (s : State) : Res := .next (evalFilter 2 s)
/-- FILTER_BILINEAR_3. -/
def execFilterBilinear3 (s : State) : Res := .next (evalFilter 3 s)

/-! ### ShadInstr (R440) -/

/-- SHAD_DECAL. -/
def execShadDecal (s : State) : Res := .next (evalShad 0 s)
/-- SHAD_MODULATE. -/
def execShadModulate (s : State) : Res := .next (evalShad 1 s)
/-- SHAD_DECALALPHA. -/
def execShadDecalalpha (s : State) : Res := .next (evalShad 2 s)
/-- SHAD_MODULATEALPHA. -/
def execShadModulatealpha (s : State) : Res := .next (evalShad 3 s)

/-! ### PixelFmt (R420 to R427): fetch and decode the texel at the addressed coordinates -/

/-- FMT_ARGB1555. -/
def execFmtArgb1555 (addr : Nat) (s : State) : Res := .next (evalArgb1555 addr s)
/-- FMT_RGB565. -/
def execFmtRgb565 (addr : Nat) (s : State) : Res := .next (evalRgb565 addr s)
/-- FMT_ARGB4444. -/
def execFmtArgb4444 (addr : Nat) (s : State) : Res := .next (evalArgb4444 addr s)
/-- FMT_YUV422. -/
def execFmtYuv422 (addr : Nat) (s : State) : Res := .next (evalYuv422 addr s)
/-- FMT_BUMP. -/
def execFmtBump (addr : Nat) (s : State) : Res := .next (evalBump addr s)
/-- FMT_PAL4. -/
def execFmtPal4 (sel addr : Nat) (s : State) : Res := .next (evalPal4 sel addr s)
/-- FMT_PAL8. -/
def execFmtPal8 (sel addr : Nat) (s : State) : Res := .next (evalPal8 sel addr s)
/-- FMT_RESERVED7: refused (R415). -/
def execFmtReserved7 (_addr : Nat) (_s : State) : Res := .refused .pixelFmtReserved

/-! ### VQ_Comp, ScanOrder, MipMapped (R411, R414, R415) -/

/-- TCW_VQ: refused (R415). -/
def execTcwVq (_s : State) : Res := .refused .vqCompressed
/-- TCW_TWIDDLED. -/
def execTcwTwiddled (s : State) : Res := .next (evalTwiddled s)
/-- TCW_STRIDE_SCAN. -/
def execTcwStrideScan (strideSel : Bool) (s : State) : Res := .next (evalStrideScan strideSel s)
/-- TCW_MIPMAPPED. -/
def execTcwMipmapped (s : State) : Res := .next (evalMip s)

/-! ### PAL_RAM_CTRL (R426) -/

/-- PAL_ARGB1555. -/
def execPalArgb1555 (s : State) : Res := .next (evalPalette 0 s)
/-- PAL_RGB565. -/
def execPalRgb565 (s : State) : Res := .next (evalPalette 1 s)
/-- PAL_ARGB4444. -/
def execPalArgb4444 (s : State) : Res := .next (evalPalette 2 s)
/-- PAL_ARGB8888. -/
def execPalArgb8888 (s : State) : Res := .next (evalPalette 3 s)

end Sys2Proof.Machine
end

