-- ==== Sys2Proof/Machine/ObjectList.lean ====
section
/-! DEFINITION. The meanings of the object-list entries (41_display_list.md rules R245 to R257). Each ends by moving
`listPtr` (R50); LINK_END ends the walk, and the pass driver goes on at `resume`. -/

namespace Sys2Proof.Machine

/-- A traversal runs in every mode but PUNCHTHROUGH_MV, in which it is refused (R329). -/
def traversing (f : State → Res) (s : State) : Res :=
  if s.mode = .punchthroughMv then .refused .punchthroughMvTraversal else f s

/-- Go on with the next word of the list (R245). -/
def nextEntry (s : State) : State := { s with listPtr := s.listPtr + 4 }

/-- Triangle `i` of a strip, if the mask selects it (R250, R252). -/
def stripTriangle (b : Block) (offs skip : Nat) (shadow : Bool) (mask i : Nat) (s : State) : Res :=
  if mask.testBit i then
    rasterizeTriangle b.hdr (vertexOf b.verts (i + i % 2)) (vertexOf b.verts (i + 1 - i % 2))
      (vertexOf b.verts (i + 2)) (makeTag i offs skip shadow (polygonWord s.mode b.hdr.isp)) s
  else .next s

/-- `render_triangle_strip(w)` (R250): eight vertices are always decoded. -/
def renderStrip (offs skip : Nat) (shadow : Bool) (mask : Nat) (s : State) : Res :=
  let block := paramBase s + offs * 4
  let two := twoVolume s s.mode shadow
  let b := blockAt s.mode s.vram block skip two 8
  let s1 := touchAll (blockAddresses s.mode s.vram block skip two 8) s
  andThen (forEach (stripTriangle b offs skip shadow mask) [0, 1, 2, 3, 4, 5] s1) (foldAfterBlock b.hdr.isp)

/-- Primitive of an array with `n` vertices at word offset `o` (R255, R257): three make a triangle, four a quad. -/
def arrayPrimitive (n o skip : Nat) (shadow : Bool) (s : State) : Res :=
  let block := paramBase s + o * 4
  let two := twoVolume s s.mode shadow
  let b := blockAt s.mode s.vram block skip two n
  let s1 := touchAll (blockAddresses s.mode s.vram block skip two n) s
  let tag := makeTag 0 o skip shadow (polygonWord s.mode b.hdr.isp)
  andThen
    (if n = 3 then
      rasterizeTriangle b.hdr (vertexOf b.verts 0) (vertexOf b.verts 1) (vertexOf b.verts 2) tag s1
    else
      rasterizeQuad b.hdr (vertexOf b.verts 0) (vertexOf b.verts 1) (vertexOf b.verts 2) (vertexOf b.verts 3) tag s1)
    (foldAfterBlock b.hdr.isp)

/-- The primitives of an array, back to back from word offset `o` (R255, R256, R257). -/
def renderArray (n skip : Nat) (shadow : Bool) : Nat → Nat → State → Res
  | 0, _, s => .next s
  | count + 1, o, s =>
    andThen (arrayPrimitive n o skip shadow s) fun s1 =>
      renderArray n skip shadow count (nextBlock o skip (twoVolume s s.mode shadow) n) s1

/-- STRIP (R245, R250). -/
def execStrip (offs skip : Nat) (shadow : Bool) (mask : Nat) (s : State) : Res :=
  traversing (fun s => andThen (renderStrip offs skip shadow mask s) fun s1 => .next (nextEntry s1)) s

/-- TARRAY (R245, R255). -/
def execTarray (offs skip : Nat) (shadow : Bool) (prims : Nat) (s : State) : Res :=
  traversing (fun s => andThen (renderArray 3 skip shadow (prims + 1) offs s) fun s1 => .next (nextEntry s1)) s

/-- QARRAY (R245, R257). -/
def execQarray (offs skip : Nat) (shadow : Bool) (prims : Nat) (s : State) : Res :=
  traversing (fun s => andThen (renderArray 4 skip shadow (prims + 1) offs s) fun s1 => .next (nextEntry s1)) s

/-- RESERVED_110 (R249): reported with its address and word, and skipped. -/
def execReserved110 (low : Nat) (s : State) : Res :=
  traversing (fun s =>
    .next (nextEntry (report (.malformedList s.listPtr (BitVec.ofNat 32 (low + 2 ^ 29 * 6))) s))) s

/-- LINK (R247, R248): the walk goes on at the target, reduced to 23 bits when it is read. -/
def execLink (nextInWords : Nat) (s : State) : Res :=
  traversing (fun s => .next { s with listPtr := nextInWords * 4 }) s

/-- LINK_END (R247): the walk ends; the address it carries is ignored. -/
def execLinkEnd (_nextInWords : Nat) (s : State) : Res :=
  traversing (fun s => .next { s with ctl := s.resume }) s

end Sys2Proof.Machine
end

