-- ==== Sys2Proof/Machine/Region.lean ====
section
/-! DEFINITION. The meanings of the words of a region-array entry (30_encoding.md R120 to R124, 41_display_list.md
R240). The control word opens the entry, each pointer word fills the next of its lists, and after the last the pass
driver sets the tile up. -/

namespace Sys2Proof.Machine

/-- REGION (R121, R123, R124, R240): in a 5-word entry `pre_sort` comes from `ISP_FEED_CFG` and the punch-through
list is empty. -/
def execRegion (tilex tiley : Nat) (noWriteout preSort zKeep lastRegion : Bool) (s : State) : Res :=
  .next { s with
    entry :=
      { s.entry with
        tilex := tilex
        tiley := tiley
        noWriteout := noWriteout
        preSort := if entryWords s = 6 then preSort else bit (reg s .ispFeedCfg) 0
        zKeep := zKeep
        lastRegion := lastRegion
        ptList := ListPointer.none }
    ptrIndex := 0
    ctl := .pointer }

/-- Put list pointer number `k` into the entry (R120). -/
def setPointer (e : RegionEntry) (k : Nat) (p : ListPointer) : RegionEntry :=
  match k with
  | 0 => { e with opaqueList := p }
  | 1 => { e with opaqueModList := p }
  | 2 => { e with transList := p }
  | 3 => { e with transModList := p }
  | _ => { e with ptList := p }

/-- Take a list pointer and go on to the next, or to tile setup after the entry's last word (R120, R240). -/
def takePointer (p : ListPointer) (s : State) : State :=
  { s with
    entry := setPointer s.entry s.ptrIndex p
    ptrIndex := s.ptrIndex + 1
    ctl := if s.ptrIndex + 2 < entryWords s then .pointer else .setup }

/-- PTR (R122, R240). -/
def execPtr (ptrInWords : Nat) (s : State) : Res := .next (takePointer ⟨false, ptrInWords * 4⟩ s)

/-- PTR_EMPTY (R122, R240). -/
def execPtrEmpty (ptrInWords : Nat) (s : State) : Res := .next (takePointer ⟨true, ptrInWords * 4⟩ s)

end Sys2Proof.Machine
end

