-- ==== Sys2Proof/Machine/Writeback.lean ====
section
/-! DEFINITION. The framebuffer pack and write controller (45_writeback.md) and the meanings of the pack-mode codes
of `FB_W_CTRL`. A frame reads the code twice: `check_configuration` (R601) lets 1 and 6 pass and aborts on the
others; the writeback (R500) packs by it. -/

namespace Sys2Proof.Machine

/-- A row of the Bayer matrix (R503). -/
def bayerRow (row : Nat) : List Nat :=
  match row with
  | 0 => [8, 136, 40, 168]
  | 1 => [200, 72, 232, 104]
  | 2 => [56, 184, 24, 152]
  | _ => [248, 120, 216, 88]

/-- `BAYER[Y AND 3][X AND 3]` (R502, R503). -/
def bayer (x y : Nat) : Nat := (bayerRow (y % 4)).getD (x % 4) 0

/-- One dithered component with maximum `m` (R502). -/
def ditherChannel (m t : Nat) (c : Byte) : Nat := (c.toNat * m + t) / 255

/-- `pack565(c, X, Y)` (R502): red in the low bits, alpha discarded. -/
def pack565 (c : Color) (x y : Nat) : Half :=
  let t := bayer x y
  BitVec.ofNat 16 (ditherChannel 31 t c.r + 2 ^ 5 * ditherChannel 63 t c.g + 2 ^ 11 * ditherChannel 31 t c.b)

/-- `pack8888(c)` (R505): red in the low byte. -/
def pack8888 (c : Color) : Word := wordOfBytes c.r c.g c.b c.a

/-- The address of a pixel in the framebuffer (R500). -/
def pixelAddress (s : State) (bpp : Nat) (i : Fin 1024) : Nat :=
  frameStart s + screenX s i * bpp + screenY s i * strideBytes s

/-- Write one pixel in pack mode 1 (R500, R502). -/
def writePixel565 (i : Fin 1024) (s : State) : State :=
  write16 (pixelAddress s 2 i) (pack565 (pixel s i).accum (screenX s i) (screenY s i)) s

/-- Write one pixel in pack mode 6 (R500, R505). -/
def writePixel8888 (i : Fin 1024) (s : State) : State :=
  write32 (pixelAddress s 4 i) (pack8888 (pixel s i).accum) s

/-- `writeback()` in pack mode 1: the 1024 pixels row by row (R500, R510). -/
def writeback565 (s : State) : State := allPixels.foldl (fun t i => writePixel565 i t) s

/-- `writeback()` in pack mode 6 (R500, R510). -/
def writeback8888 (s : State) : State := allPixels.foldl (fun t i => writePixel8888 i t) s

/-- A supported pack code: at the configuration check the frame goes on, otherwise the tile is written and, in a
frame, the entry ends (R231, R501, R601). -/
def supportedPack (write : State → State) (s : State) : State :=
  match s.ctl with
  | .checkPack => { s with ctl := .checkScaler }
  | .writeback => { write s with ctl := .entryEnd }
  | _ => write s

/-- PACK_0_UNSUPPORTED (R601). -/
def execPack0 (s : State) : Res := .next (abortFrame .fbPackmode s)

/-- PACK_1_565 (R500, R502, R601). -/
def execPack1 (s : State) : Res := .next (supportedPack writeback565 s)

/-- PACK_2_UNSUPPORTED (R601). -/
def execPack2 (s : State) : Res := .next (abortFrame .fbPackmode s)

/-- PACK_3_UNSUPPORTED (R601). -/
def execPack3 (s : State) : Res := .next (abortFrame .fbPackmode s)

/-- PACK_4_UNSUPPORTED (R601). -/
def execPack4 (s : State) : Res := .next (abortFrame .fbPackmode s)

/-- PACK_5_UNSUPPORTED (R601). -/
def execPack5 (s : State) : Res := .next (abortFrame .fbPackmode s)

/-- PACK_6_8888 (R500, R505, R601). -/
def execPack6 (s : State) : Res := .next (supportedPack writeback8888 s)

/-- PACK_7_UNSUPPORTED (R601). -/
def execPack7 (s : State) : Res := .next (abortFrame .fbPackmode s)

end Sys2Proof.Machine
end

