-- ==== Sys2Proof/Machine/Driver.lean ====
section
/-! DEFINITION. The pass driver (40_pass_driver.md, 60_exceptions.md R601): what happens between the words a step
fetches, and where each word is fetched. One driver action is one step (log 1). -/

namespace Sys2Proof.Machine

/-! ### Frames -/

/-- The host calls `render()` (R200, R53, R701): errors, result, mode and tile are cleared, and the configuration is
checked first. -/
def beginFrame (s : State) : State :=
  { s with errors := [], result := none, mode := .opaqueMode, tilex := 0, tiley := 0, ctl := .checkPack }

/-- The checks of `SCALER_CTL` (R601), in order; then the walk of the region array begins (R200). -/
def checkScaler (s : State) : State :=
  let w := reg s .scalerCtl
  if bits w 15 0 ≠ 0x400 ∧ bits w 15 0 ≠ 0x401 ∧ bits w 15 0 ≠ 0x800 then abortFrame .vscalefactor s
  else if bit w 16 then abortFrame .hscale s
  else if bit w 17 then abortFrame .interlace s
  else { s with regionPtr := regionBase s, entryCount := 0, ctl := .region }

/-- The end of a region entry (R200): the last entry ends the frame; after any other `regionPtr` moves on (R49), and
the 1024th without `last_region` reports and ends the frame. -/
def endEntry (s : State) : State :=
  if s.entry.lastRegion then finishFrame s
  else
    let s1 := { s with regionPtr := s.regionPtr + 4 * entryWords s }
    if s.entryCount + 1 < 1024 then { s1 with entryCount := s.entryCount + 1, ctl := .region }
    else finishFrame (report .noLastRegion s1)

/-! ### Traversals -/

/-- `traverse(ptr, m)` (R202): set the mode and walk the list; afterwards the driver goes on at `k`. A
PUNCHTHROUGH_PASSN traversal remembers `depth_test` as it begins (R323). -/
def traverse (p : ListPointer) (m : RenderMode) (k : Ctl) (s : State) : State :=
  let s1 := { s with mode := m, listPtr := p.address, resume := k, ctl := .walk }
  if m = .punchthroughPassN then mapTile (fun q => { q with depthPrev := q.depthTest }) s1 else s1

/-- Traverse a list unless it is empty; then, or at once, go on at `k`. -/
def traverseUnlessEmpty (p : ListPointer) (m : RenderMode) (k : Ctl) (s : State) : State :=
  if p.empty then { s with ctl := k } else traverse p m k s

/-- `render_param_tags(m)` and go on at `k`. -/
def renderTagsThen (m : RenderMode) (k : Ctl) (s : State) : Res :=
  andThen (renderParamTags m s) fun s1 => .next { s1 with ctl := k }

/-! ### Passes -/

/-- The opaque pass runs only with an opaque list (R212). -/
def opaqueStart (s : State) : State :=
  if s.entry.opaqueList.empty then { s with ctl := .ptStart }
  else traverse s.entry.opaqueList .opaqueMode .opaqueModStart s

/-- The punch-through pass runs only with a punch-through list (R216); `depth_ref <- FLT_MAX` (R217). -/
def ptStart (s : State) : State :=
  if s.entry.ptList.empty then { s with ctl := .transStart }
  else { mapTile (fun p => { p with depthRef := fltMax }) s with ptIteration := 0, ctl := .ptIterate }

/-- Steps 1 and 2 of the punch-through loop (R218, R219). -/
def ptIterate (s : State) : State :=
  traverse s.entry.ptList (if s.ptIteration = 0 then .punchthroughPass0 else .punchthroughPassN) .ptTest
    (mapTile (fun p => { p with stencil := clearBit0 p.stencil }) { s with moreToDraw := false })

/-- Steps 3 and 4 of the punch-through loop (R220, R221). -/
def ptTest (s : State) : State :=
  if s.moreToDraw then { mapTile (fun p => { p with depthRef := p.depthTest }) s with ctl := .ptTags }
  else { s with ctl := .ptModStart }

/-- Step 5 of the punch-through loop (R222). -/
def ptTags (s : State) : Res :=
  renderTagsThen .punchthroughPass0 .ptIterate { s with ptIteration := s.ptIteration + 1 }

/-- After the punch-through loop (R224): the opaque-modifier list again, then its tags; neither without the list. -/
def ptModStart (s : State) : State :=
  if s.entry.opaqueModList.empty then { s with ctl := .transStart }
  else traverse s.entry.opaqueModList .modifier .ptMvTags s

/-- The translucent pass (R225): nothing without a list, presort (R226), or the auto-sort's initialisation (R227). -/
def transStart (s : State) : State :=
  if s.entry.transList.empty then { s with ctl := .writeback }
  else if s.entry.preSort then traverse s.entry.transList .translucentPresort .writeback s
  else { mapTile (fun p => { p with tag := 0xFFFFFFFF }) s with ctl := .sortIterate }

/-- Step 1 of the auto-sort loop at one pixel (R228). -/
def sortPixel (p : Pixel) : Pixel :=
  { p with stencil := 0, depthRef := p.depthTest, tagRef := p.tag, depthTest := fltMax }

/-- Steps 1 and 2 of the auto-sort loop (R228, R229). -/
def sortIterate (s : State) : State :=
  traverse s.entry.transList .translucentAutosort .sortModStart
    (mapTile sortPixel { s with moreToDraw := false, andPhase := false })

/-- The end of the auto-sort loop (R230). -/
def sortTest (s : State) : State := { s with ctl := if s.moreToDraw then .sortIterate else .writeback }

/-- The driver's action at a point where no word is fetched. At a fetch point there is none (the step fetches). -/
def driverStep (s : State) : Res :=
  match s.ctl with
  | .idle => .next (beginFrame s)
  | .checkScaler => .next (checkScaler s)
  | .setup => .next { tileSetup s with ctl := .opaqueStart }
  | .opaqueStart => .next (opaqueStart s)
  | .opaqueModStart => .next (traverseUnlessEmpty s.entry.opaqueModList .modifier .opaqueTags s)
  | .opaqueTags => renderTagsThen .opaqueMode .ptStart s
  | .ptStart => .next (ptStart s)
  | .ptIterate => .next (ptIterate s)
  | .ptTest => .next (ptTest s)
  | .ptTags => ptTags s
  | .ptModStart => .next (ptModStart s)
  | .ptMvTags => renderTagsThen .punchthroughMv .transStart s
  | .transStart => .next (transStart s)
  | .sortIterate => .next (sortIterate s)
  | .sortModStart => .next (traverseUnlessEmpty s.entry.transModList .modifier .sortTags s)
  | .sortTags => renderTagsThen .translucentAutosort .sortTest s
  | .sortTest => .next (sortTest s)
  | .writeback => .next { s with ctl := .entryEnd }
  | .entryEnd => .next (endEntry s)
  | .checkPack | .region | .pointer | .walk | .operand _ _ => .next s

/-! ### Fetching -/

/-- Where an instruction word comes from. -/
inductive FetchSource where
  /-- VRAM, through the interleaved view, at a logical byte address (R92). -/
  | vram (a : Nat)
  /-- A rendering register. -/
  | register (r : Reg)
deriving DecidableEq, Repr

/-- The register an operand code lies in, for the two register formats of the table. -/
def formatRegister (f : Format) : Option Reg :=
  match f with
  | .palRamCtrl => some .palRamCtrl
  | .fbPackmode => some .fbWCtrl
  | _ => none

/-- The format and the place of the word the next step fetches; none where the driver acts without one. -/
def fetchPoint (s : State) : Option (Format × FetchSource) :=
  match s.ctl with
  | .checkPack => some (.fbPackmode, .register .fbWCtrl)
  | .region => some (.regionControl, .vram s.regionPtr)
  | .pointer => some (.listPointer, .vram (s.regionPtr + 4 + 4 * s.ptrIndex))
  | .walk => some (.objectList, .vram s.listPtr)
  | .writeback => if s.entry.noWriteout then none else some (.fbPackmode, .register .fbWCtrl)
  | .operand f a =>
    match formatRegister f with
    | some r => some (f, .register r)
    | none => some (f, .vram a)
  | _ => none

/-- The word at a fetch source (R32, R96). -/
def fetchWord (src : FetchSource) (s : State) : Word :=
  match src with
  | .vram a => word32 s.vram a
  | .register r => reg s r

/-- What fetching does to the state: `R32` reports an address at or above 8 MiB (R95). -/
def fetchState (src : FetchSource) (s : State) : State :=
  match src with
  | .vram a => touch a s
  | .register _ => s

/-- The fetch pointer is a multiple of 4 (R100). -/
def fetchAligned (src : FetchSource) : Bool :=
  match src with
  | .vram a => a % 4 == 0
  | .register _ => true

/-- The fault of a fetch pointer that is not (R100, log 19). -/
def fetchAddress (src : FetchSource) : Nat :=
  match src with
  | .vram a => a
  | .register _ => 0

/-- After an operand code executed alone the driver is idle (log 22); every other meaning has moved the driver on. -/
def leaveOperand (s : State) : State :=
  match s.ctl with
  | .operand _ _ => { s with ctl := .idle }
  | _ => s

/-! ### The host's interface to a fetch -/

/-- Put a register's value (the host owns the register file, R35). -/
def pokeReg (r : Reg) (w : Word) (s : State) : State := { s with regs := sparseSet s.regs (regOffset r / 4) w }

/-- Put a word into VRAM through the interleaved view (the host owns VRAM between frames, R105). -/
def pokeWord (a : Nat) (w : Word) (s : State) : State := { s with vram := store32 s.vram a w }

/-- The word number `n` stored where the next step fetches it, the driver standing at that fetch: an object-list word
at `listPtr` (in the walk), any other at its operand place (log 21). -/
def placeWord (f : Format) (w : Word) (s : State) : State :=
  match f with
  | .objectList => pokeWord (s.listPtr / 4 * 4) w { s with listPtr := s.listPtr / 4 * 4, ctl := .walk }
  | .regionControl => pokeWord (s.regionPtr / 4 * 4) w { s with regionPtr := s.regionPtr / 4 * 4, ctl := .region }
  | f =>
    match formatRegister f with
    | some r => pokeReg r w { s with ctl := .operand f 0 }
    | none => pokeWord (paramBase s) w { s with ctl := .operand f (paramBase s) }

end Sys2Proof.Machine
end

