-- ==== Sys2Proof/Machine/Dispatch.lean ====
section
/-! DEFINITION. One arm per instruction: its meaning. -/

namespace Sys2Proof.Machine

def exec (i : Instr) (s : State) : Host.Outcome State Fault Refusal :=
  match i with
  | .region tilex tiley noWriteout preSort zKeep lastRegion => Sys2Proof.Machine.execRegion tilex tiley noWriteout preSort zKeep lastRegion s
  | .ptr ptrInWords => Sys2Proof.Machine.execPtr ptrInWords s
  | .ptrEmpty ptrInWords => Sys2Proof.Machine.execPtrEmpty ptrInWords s
  | .strip offs skip shadow mask => Sys2Proof.Machine.execStrip offs skip shadow mask s
  | .tarray offs skip shadow prims => Sys2Proof.Machine.execTarray offs skip shadow prims s
  | .qarray offs skip shadow prims => Sys2Proof.Machine.execQarray offs skip shadow prims s
  | .reserved110 low => Sys2Proof.Machine.execReserved110 low s
  | .link nextInWords => Sys2Proof.Machine.execLink nextInWords s
  | .linkEnd nextInWords => Sys2Proof.Machine.execLinkEnd nextInWords s
  | .depthNever => Sys2Proof.Machine.execDepthNever s
  | .depthLess => Sys2Proof.Machine.execDepthLess s
  | .depthEqual => Sys2Proof.Machine.execDepthEqual s
  | .depthLessequal => Sys2Proof.Machine.execDepthLessequal s
  | .depthGreater => Sys2Proof.Machine.execDepthGreater s
  | .depthNotequal => Sys2Proof.Machine.execDepthNotequal s
  | .depthGreaterequal => Sys2Proof.Machine.execDepthGreaterequal s
  | .depthAlways => Sys2Proof.Machine.execDepthAlways s
  | .cullNone => Sys2Proof.Machine.execCullNone s
  | .cullSmall => Sys2Proof.Machine.execCullSmall s
  | .cullNegative => Sys2Proof.Machine.execCullNegative s
  | .cullPositive => Sys2Proof.Machine.execCullPositive s
  | .volNone cull => Sys2Proof.Machine.execVolNone cull s
  | .volOr cull => Sys2Proof.Machine.execVolOr cull s
  | .volAnd cull => Sys2Proof.Machine.execVolAnd cull s
  | .volReserved3 => Sys2Proof.Machine.execVolReserved3 s
  | .volReserved4 => Sys2Proof.Machine.execVolReserved4 s
  | .volReserved5 => Sys2Proof.Machine.execVolReserved5 s
  | .volReserved6 => Sys2Proof.Machine.execVolReserved6 s
  | .volReserved7 => Sys2Proof.Machine.execVolReserved7 s
  | .srcZero => Sys2Proof.Machine.execSrcZero s
  | .srcOne => Sys2Proof.Machine.execSrcOne s
  | .srcOther => Sys2Proof.Machine.execSrcOther s
  | .srcInvother => Sys2Proof.Machine.execSrcInvother s
  | .srcSrcalpha => Sys2Proof.Machine.execSrcSrcalpha s
  | .srcInvsrcalpha => Sys2Proof.Machine.execSrcInvsrcalpha s
  | .srcDstalpha => Sys2Proof.Machine.execSrcDstalpha s
  | .srcInvdstalpha => Sys2Proof.Machine.execSrcInvdstalpha s
  | .dstZero => Sys2Proof.Machine.execDstZero s
  | .dstOne => Sys2Proof.Machine.execDstOne s
  | .dstOther => Sys2Proof.Machine.execDstOther s
  | .dstInvother => Sys2Proof.Machine.execDstInvother s
  | .dstSrcalpha => Sys2Proof.Machine.execDstSrcalpha s
  | .dstInvsrcalpha => Sys2Proof.Machine.execDstInvsrcalpha s
  | .dstDstalpha => Sys2Proof.Machine.execDstDstalpha s
  | .dstInvdstalpha => Sys2Proof.Machine.execDstInvdstalpha s
  | .fogTable => Sys2Proof.Machine.execFogTable s
  | .fogVertex => Sys2Proof.Machine.execFogVertex s
  | .fogNone => Sys2Proof.Machine.execFogNone s
  | .fogTablealpha => Sys2Proof.Machine.execFogTablealpha s
  | .filterPoint => Sys2Proof.Machine.execFilterPoint s
  | .filterBilinear1 => Sys2Proof.Machine.execFilterBilinear1 s
  | .filterBilinear2 => Sys2Proof.Machine.execFilterBilinear2 s
  | .filterBilinear3 => Sys2Proof.Machine.execFilterBilinear3 s
  | .shadDecal => Sys2Proof.Machine.execShadDecal s
  | .shadModulate => Sys2Proof.Machine.execShadModulate s
  | .shadDecalalpha => Sys2Proof.Machine.execShadDecalalpha s
  | .shadModulatealpha => Sys2Proof.Machine.execShadModulatealpha s
  | .fmtArgb1555 addr => Sys2Proof.Machine.execFmtArgb1555 addr s
  | .fmtRgb565 addr => Sys2Proof.Machine.execFmtRgb565 addr s
  | .fmtArgb4444 addr => Sys2Proof.Machine.execFmtArgb4444 addr s
  | .fmtYuv422 addr => Sys2Proof.Machine.execFmtYuv422 addr s
  | .fmtBump addr => Sys2Proof.Machine.execFmtBump addr s
  | .fmtPal4 sel addr => Sys2Proof.Machine.execFmtPal4 sel addr s
  | .fmtPal8 sel addr => Sys2Proof.Machine.execFmtPal8 sel addr s
  | .fmtReserved7 addr => Sys2Proof.Machine.execFmtReserved7 addr s
  | .tcwVq => Sys2Proof.Machine.execTcwVq s
  | .tcwTwiddled => Sys2Proof.Machine.execTcwTwiddled s
  | .tcwStrideScan strideSel => Sys2Proof.Machine.execTcwStrideScan strideSel s
  | .tcwMipmapped => Sys2Proof.Machine.execTcwMipmapped s
  | .palArgb1555 => Sys2Proof.Machine.execPalArgb1555 s
  | .palRgb565 => Sys2Proof.Machine.execPalRgb565 s
  | .palArgb4444 => Sys2Proof.Machine.execPalArgb4444 s
  | .palArgb8888 => Sys2Proof.Machine.execPalArgb8888 s
  | .pack0Unsupported => Sys2Proof.Machine.execPack0 s
  | .pack1Rgb565 => Sys2Proof.Machine.execPack1 s
  | .pack2Unsupported => Sys2Proof.Machine.execPack2 s
  | .pack3Unsupported => Sys2Proof.Machine.execPack3 s
  | .pack4Unsupported => Sys2Proof.Machine.execPack4 s
  | .pack5Unsupported => Sys2Proof.Machine.execPack5 s
  | .pack6Argb8888 => Sys2Proof.Machine.execPack6 s
  | .pack7Unsupported => Sys2Proof.Machine.execPack7 s

end Sys2Proof.Machine
end

