-- ==== Sys2Proof/Machine/Step.lean ====
section
/-! DEFINITION. One step: at a fetch point, fetch a word, decode it in the point's format and execute it; elsewhere
the pass driver's next action. -/

namespace Sys2Proof.Machine

/-- Fetch, decode and execute at a fetch point. -/
def stepFetch (f : Format) (src : FetchSource) (s : State) : Res :=
  if fetchAligned src then
    match decode f (fetchWord src s) with
    | .ok i => andThen (exec i (fetchState src s)) fun t => .next (leaveOperand t)
    | .error e => .refused (.undecodable e)
  else .fault (.misalignedPointer (fetchAddress src))

/-- One step of the block. -/
def step (s : State) : Host.Outcome State Fault Refusal :=
  match fetchPoint s with
  | some (f, src) => stepFetch f src s
  | none => driverStep s

/-- The state with an opcode-table number stored where the next step fetches its instruction (the host's interface,
log 21). -/
def State.withFetchWord (s : State) (nbits w : Nat) : State :=
  placeWord (tableFormat nbits w) (BitVec.ofNat 32 w) s

end Sys2Proof.Machine
end

