-- ==== Sys2Proof/Safety.lean ====
section
/-! DEFINITION. What a safe state is, what drawing may touch, and runs of several steps: the terms the statements
are made in. -/

namespace Sys2Proof.Machine

/-- `n` steps; a fault or a refusal ends the run. -/
def runSteps : Nat → State → Res
  | 0, s => .next s
  | n + 1, s => andThen (step s) (runSteps n)

/-! ### Encoding -/

/-- The bits of its word an instruction's row gives a meaning to (30_encoding.md): the code and the operand fields;
the others are ignored, or belong to other fields of the same word. -/
def definedBits : Instr → Word
  | .region _ _ _ _ _ _ => 0xF0003FFC
  | .ptr _ | .ptrEmpty _ => 0x80FFFFFC
  | .strip _ _ _ _ | .tarray _ _ _ _ | .qarray _ _ _ _ | .reserved110 _ => 0xFFFFFFFF
  | .link _ | .linkEnd _ => 0xF0FFFFFC
  | .depthNever | .depthLess | .depthEqual | .depthLessequal => 0xE0000000
  | .depthGreater | .depthNotequal | .depthGreaterequal | .depthAlways => 0xE0000000
  | .cullNone | .cullSmall | .cullNegative | .cullPositive => 0x18000000
  | .volNone _ | .volOr _ | .volAnd _ => 0xF8000000
  | .volReserved3 | .volReserved4 | .volReserved5 | .volReserved6 | .volReserved7 => 0xE0000000
  | .srcZero | .srcOne | .srcOther | .srcInvother => 0xE0000000
  | .srcSrcalpha | .srcInvsrcalpha | .srcDstalpha | .srcInvdstalpha => 0xE0000000
  | .dstZero | .dstOne | .dstOther | .dstInvother => 0x1C000000
  | .dstSrcalpha | .dstInvsrcalpha | .dstDstalpha | .dstInvdstalpha => 0x1C000000
  | .fogTable | .fogVertex | .fogNone | .fogTablealpha => 0x00C00000
  | .filterPoint | .filterBilinear1 | .filterBilinear2 | .filterBilinear3 => 0x00006000
  | .shadDecal | .shadModulate | .shadDecalalpha | .shadModulatealpha => 0x000000C0
  | .fmtArgb1555 _ | .fmtRgb565 _ | .fmtArgb4444 _ | .fmtYuv422 _ => 0x381FFFFF
  | .fmtBump _ | .fmtReserved7 _ => 0x381FFFFF
  | .fmtPal4 _ _ | .fmtPal8 _ _ => 0x3FFFFFFF
  | .tcwVq => 0x40000000
  | .tcwTwiddled => 0x04000000
  | .tcwStrideScan _ => 0x06000000
  | .tcwMipmapped => 0x80000000
  | .palArgb1555 | .palRgb565 | .palArgb4444 | .palArgb8888 => 0x00000003
  | .pack0Unsupported | .pack1Rgb565 | .pack2Unsupported | .pack3Unsupported => 0x00000007
  | .pack4Unsupported | .pack5Unsupported | .pack6Argb8888 | .pack7Unsupported => 0x00000007

/-! ### The invariant -/

/-- Stencil bits 7:3 and status bits 7:2 are 0 (R42, R45). -/
def Pixel.safe (p : Pixel) : Prop := p.stencil.toNat < 8 ∧ p.status.toNat < 4

/-- A list pointer's address is a whole number of words (R122). -/
def ListPointer.safe (p : ListPointer) : Prop := p.address % 4 = 0

/-- Tile coordinates fit 6 bits (R121) and every list address is a whole number of words. -/
structure RegionEntry.safe (e : RegionEntry) : Prop where
  tilex : e.tilex < 64
  tiley : e.tiley < 64
  opaqueList : e.opaqueList.safe
  opaqueModList : e.opaqueModList.safe
  transList : e.transList.safe
  transModList : e.transModList.safe
  ptList : e.ptList.safe

/-- The driver's position fetches at a whole number of words. -/
def Ctl.safe : Ctl → Prop
  | .operand _ a => a % 4 = 0
  | _ => True

/-- The invariant of the block: VRAM and registers canonical, reserved buffer bits 0, pointers whole numbers of words
(R100), tile coordinates in range, at most 1024 region entries (R200). -/
structure Inv (s : State) : Prop where
  vram : Memory.wf s.vram = true
  regs : regsWf s.regs = true
  pixels : ∀ i, (pixel s i).safe
  regionPtr : s.regionPtr % 4 = 0
  listPtr : s.listPtr % 4 = 0
  entry : s.entry.safe
  tilex : s.tilex < 64
  tiley : s.tiley < 64
  entryCount : s.entryCount < 1024
  ctl : s.ctl.safe
  resume : s.resume.safe

/-- Stencil bit 2 is 0 at every pixel (R356). -/
def NoAndBit (s : State) : Prop := ∀ i, (pixel s i).stencil.getLsbD 2 = false

/-- A primitive the ISP rasterizes: finite coordinates, area not 0 (R301, R304). -/
def canRasterize (p : DrawParameters) : Prop :=
  vertexFinite p.v0 = true ∧ vertexFinite p.v1 = true ∧ vertexFinite p.v2 = true ∧
    (planeOf p.v0 p.v1 p.v2).area2 ≠ 0

/-- Every cache entry lies under its own tag and is a primitive the ISP rasterizes (R57, R304). -/
def CacheSound (s : State) : Prop := ∀ e ∈ s.fpuCache, e.1 = e.2.tag ∧ canRasterize e.2

/-! ### When a list entry completes -/

/-- The texture word is none the shader refuses (R415). -/
def tcwOk (tcw : Word) : Prop := bit tcw 30 = false ∧ bits tcw 29 27 ≠ 7

/-- The shader refuses no set of the block: untextured, or every set's texture word is ok (R402, R415). -/
def shadeable (h : Header) : Prop :=
  bit h.isp 25 = true → tcwOk h.tcw ∧ (h.twoVolume = true → tcwOk h.tcw2)

/-- Nothing about the block is refused in a traversal of mode `m` (R606): a modifier block's VolumeMode is 0, 1 or 2
(R354), a presort block can be shaded (R415); the other modes shade nothing while they traverse. -/
def blockOk (m : RenderMode) (h : Header) : Prop :=
  (m = .modifier → bits h.isp 31 29 < 3) ∧ (m = .translucentPresort → shadeable h)

/-- The header of primitive `k` of an array at word offset `offs` with `n` vertices each (R256, R260). -/
def arrayHeader (s : State) (n offs skip : Nat) (shadow : Bool) (k : Nat) : Header :=
  let two := twoVolume s s.mode shadow
  headerAt s.vram (paramBase s + (offs + k * (headerWords two + n * vstride skip two)) * 4) two

/-- The header of a strip (R250, R260). -/
def stripHeader (s : State) (offs : Nat) (shadow : Bool) : Header :=
  headerAt s.vram (paramBase s + offs * 4) (twoVolume s s.mode shadow)

/-! ### Frames -/

/-- What drawing leaves alone: `t` has the VRAM, the registers and the driver's state of `s`, and the errors of `s`
with more at the end. Drawing works on the tile buffers, `and_phase`, `more_to_draw`, the cache, the units'
registers and the free-value counter. -/
structure DrawFrame (s t : State) : Prop where
  vram : t.vram = s.vram
  regs : t.regs = s.regs
  regionPtr : t.regionPtr = s.regionPtr
  listPtr : t.listPtr = s.listPtr
  mode : t.mode = s.mode
  tilex : t.tilex = s.tilex
  tiley : t.tiley = s.tiley
  result : t.result = s.result
  entry : t.entry = s.entry
  entryCount : t.entryCount = s.entryCount
  ptIteration : t.ptIteration = s.ptIteration
  ctl : t.ctl = s.ctl
  resume : t.resume = s.resume
  ptrIndex : t.ptrIndex = s.ptrIndex
  depthClearMode : t.depthClearMode = s.depthClearMode
  errors : s.errors <+: t.errors

/-- What shading leaves alone besides: the tile buffers, `and_phase`, `more_to_draw`, the cache, the ISP's registers,
the pixel selector. -/
structure ShadeFrame (s t : State) : Prop extends DrawFrame s t where
  tile : t.tile = s.tile
  andPhase : t.andPhase = s.andPhase
  moreToDraw : t.moreToDraw = s.moreToDraw
  fpuCache : t.fpuCache = s.fpuCache
  isp : t.isp = s.isp
  pix : t.pix = s.pix

/-- Every pixel but `i` is unchanged. -/
def OtherPixels (i : Fin 1024) (s t : State) : Prop := ∀ j, j ≠ i → pixel t j = pixel s j

end Sys2Proof.Machine
end

