-- ==== Sys2Proof/Certificates/Slice0/Obligations.lean ====
section
/-! DEFINITION. The statements for the provers. Where a statement rests on a decision the spec marks as its own
(`D<n>`, 92_eei_decisions.md), on an inference it marks as derived, or on a choice of this model (log entries of
notes/assumptions), its docstring says so. -/

open Sys2Proof Sys2Proof.Machine

/-! ### Encoding -/

/-- Decoding an encoded instruction gives it back, from its word and from its four bytes, the least significant first:
no operand bit is dropped (30_encoding.md, R99, R169). -/
def Obligations.DecodeUndoesEncode : Prop :=
  ∀ i : Instr, i.wellFormed = true → decode i.format (encode i) = .ok i ∧ ∀ rest,
    decodeBytes i.format ((encode i).extractLsb' 0 8 :: (encode i).extractLsb' 8 8 :: (encode i).extractLsb' 16 8 ::
      (encode i).extractLsb' 24 8 :: rest) = .ok (i, rest)

/-- Encoding a decoded word gives back the bits its row gives a meaning to; a decoded instruction is well formed and
of the format it was read in (30_encoding.md). -/
def Obligations.EncodeUndoesDecode : Prop :=
  ∀ (f : Format) (w : Word) (i : Instr), decode f w = .ok i →
    i.wellFormed = true ∧ i.format = f ∧ encode i = w &&& definedBits i

/-- R125: bit 31 clear is a strip, otherwise bits 31:29 are the type. -/
def Obligations.ObjectEntryTypes : Prop :=
  ∀ w : Word,
    (w.getLsbD 31 = false → ∃ offs skip shadow mask, decode .objectList w = .ok (.strip offs skip shadow mask)) ∧
    (w.extractLsb' 29 3 = 0b100#3 → ∃ offs skip shadow prims,
      decode .objectList w = .ok (.tarray offs skip shadow prims)) ∧
    (w.extractLsb' 29 3 = 0b101#3 → ∃ offs skip shadow prims,
      decode .objectList w = .ok (.qarray offs skip shadow prims)) ∧
    (w.extractLsb' 29 3 = 0b111#3 → ∃ n, decode .objectList w = .ok (.link n) ∨ decode .objectList w = .ok (.linkEnd n)) ∧
    (w.extractLsb' 29 3 = 0b110#3 → ∃ low, decode .objectList w = .ok (.reserved110 low))

/-- The fields of the words of region entries and object lists lie where R121, R122 and R126 to R129 put them (the
positions are the spec's decisions D7 and D8). -/
def Obligations.EntryFields : Prop :=
  ∀ w : Word,
    decode .regionControl w = .ok (.region (w.extractLsb' 2 6).toNat (w.extractLsb' 8 6).toNat (w.getLsbD 28)
      (w.getLsbD 29) (w.getLsbD 30) (w.getLsbD 31)) ∧
    decode .listPointer w = .ok (if w.getLsbD 31 then .ptrEmpty (w.extractLsb' 2 22).toNat
      else .ptr (w.extractLsb' 2 22).toNat) ∧
    (w.getLsbD 31 = false → decode .objectList w = .ok (.strip (w.extractLsb' 0 21).toNat (w.extractLsb' 21 3).toNat
      (w.getLsbD 24) (w.extractLsb' 25 6).toNat)) ∧
    (w.extractLsb' 29 3 = 0b100#3 → decode .objectList w = .ok (.tarray (w.extractLsb' 0 21).toNat
      (w.extractLsb' 21 3).toNat (w.getLsbD 24) (w.extractLsb' 25 4).toNat)) ∧
    (w.extractLsb' 29 3 = 0b101#3 → decode .objectList w = .ok (.qarray (w.extractLsb' 0 21).toNat
      (w.extractLsb' 21 3).toNat (w.getLsbD 24) (w.extractLsb' 25 4).toNat)) ∧
    (w.extractLsb' 29 3 = 0b111#3 → decode .objectList w = .ok (if w.getLsbD 28 then
      .linkEnd (w.extractLsb' 2 22).toNat else .link (w.extractLsb' 2 22).toNat))

/-- Words of the spec's own examples (95_test_vectors.md) decode to the instructions they stand for. -/
def Obligations.ExampleWordsDecode : Prop :=
  decode .regionControl 0x80000A0C = .ok (.region 3 10 false false false true) ∧
  decode .listPointer 0x7F100103 = .ok (.ptr 0x40040) ∧
  decode .objectList 0x80200400 = .ok (.tarray 0x400 1 false 0) ∧
  decode .objectList 0xA1200400 = .ok (.qarray 0x400 1 true 0) ∧
  decode .objectList 0x0A200400 = .ok (.strip 0x400 1 false 0b000101) ∧
  decode .objectList 0xE0040000 = .ok (.link 0x10000) ∧
  decode .objectList 0xF0000000 = .ok (.linkEnd 0) ∧
  decode .depthMode 0xE2000000 = .ok .depthAlways ∧
  decode .volumeMode 0x20000000 = .ok (.volOr 0) ∧
  decode .srcInstr 0x94900000 = .ok .srcSrcalpha ∧
  decode .dstInstr 0x94900000 = .ok .dstInvsrcalpha ∧
  decode .fogCtrl 0x20900000 = .ok .fogNone ∧
  decode .pixelFmt 0x00060000 = .ok (.fmtArgb1555 0x60000) ∧
  decode .fbPackmode 0x00000006 = .ok .pack6Argb8888

/-! ### Memory and registers -/

/-- R93 and R94 (marked derived in the spec): the map places the middle span above the bank bit, is a bijection of
VRAM, increases within a bank, interleaves the banks every four bytes, and is no involution. -/
def Obligations.AddressMapBijection : Prop :=
  (∀ a : BitVec 23, pvrMap32 a.toNat = (a.extractLsb' 2 20 ++ a.extractLsb' 22 1 ++ a.extractLsb' 0 2).toNat) ∧
  (∀ a, a < vramSize → pvrMap32 a < vramSize) ∧
  (∀ a b, a < vramSize → b < vramSize → pvrMap32 a = pvrMap32 b → a = b) ∧
  (∀ p, p < vramSize → ∃ a, a < vramSize ∧ pvrMap32 a = p) ∧
  (∀ a b, a < b → b < vramSize → a / 2 ^ 22 = b / 2 ^ 22 → pvrMap32 a < pvrMap32 b) ∧
  (∀ k, k < 2 ^ 20 → pvrMap32 (4 * k) = 8 * k ∧ pvrMap32 (2 ^ 22 + 4 * k) = 8 * k + 4) ∧
  pvrMap32 (pvrMap32 4) ≠ 4

/-- R95, R96, R98 (that texture reads use the linear view is the spec's decision D34): an access takes place at its
address reduced to 23 bits and an address at or above 0x800000 is reported, which changes nothing else; a 32-bit read
is the four bytes at the mapped address, little-endian, an 8-bit texture read the byte at the unmapped address. -/
def Obligations.AccessesAreMasked : Prop :=
  (∀ (m : List Host.Cell) (a : Nat),
    word32 m a = Memory.read m (pvrMap32 (a % 0x800000) + 3) ++ Memory.read m (pvrMap32 (a % 0x800000) + 2) ++
      Memory.read m (pvrMap32 (a % 0x800000) + 1) ++ Memory.read m (pvrMap32 (a % 0x800000)) ∧
    texel8 m a = Memory.read m (a % 0x800000) ∧
    (∀ v, store16 m a v = store16 m (a % 0x800000) v) ∧ (∀ v, store32 m a v = store32 m (a % 0x800000) v)) ∧
  (∀ (s : State) (a : Nat),
    touch a s = { s with errors := s.errors ++ if 0x800000 ≤ a then [.addressOutOfRange a] else [] } ∧
    fetchState (.vram a) s = touch a s ∧ fetchWord (.vram a) s = word32 s.vram a)

/-- R97: the bytes a 16-bit and a 32-bit write leave, at every physical address, and the report of an address at or
above 0x800000. The addresses are aligned as R100 says every one is. -/
def Obligations.StoresWriteTheirBytes : Prop :=
  ∀ (s : State) (a : Nat), Memory.wf s.vram = true →
    (a % 2 = 0 → ∀ v : Half,
      (∀ q, Memory.read (write16 a v s).vram q =
        if q = pvrMap32 (a % 0x800000) then v.extractLsb' 0 8
        else if q = pvrMap32 (a % 0x800000) + 1 then v.extractLsb' 8 8 else Memory.read s.vram q) ∧
      write16 a v s = { s with
        vram := (write16 a v s).vram
        errors := s.errors ++ if 0x800000 ≤ a then [.addressOutOfRange a] else [] }) ∧
    (a % 4 = 0 → ∀ v : Word,
      (∀ q, Memory.read (write32 a v s).vram q =
        if q = pvrMap32 (a % 0x800000) then v.extractLsb' 0 8
        else if q = pvrMap32 (a % 0x800000) + 1 then v.extractLsb' 8 8
        else if q = pvrMap32 (a % 0x800000) + 2 then v.extractLsb' 16 8
        else if q = pvrMap32 (a % 0x800000) + 3 then v.extractLsb' 24 8 else Memory.read s.vram q) ∧
      write32 a v s = { s with
        vram := (write32 a v s).vram
        errors := s.errors ++ if 0x800000 ≤ a then [.addressOutOfRange a] else [] })

/-- R506 (marked derived): a packed pixel reads back as the word written, packing is injective, and read through the
texture unpack red and blue come back exchanged. -/
def Obligations.PackedWordRoundTrip : Prop :=
  (∀ (s : State) (a : Nat) (c : Color), Memory.wf s.vram = true → a % 4 = 0 →
    word32 (write32 a (pack8888 c) s).vram a = pack8888 c) ∧
  (∀ c d : Color, pack8888 c = pack8888 d → c = d) ∧
  (∀ c : Color, decodeArgb8888 (pack8888 c) = ⟨c.b, c.g, c.r, c.a⟩)

/-- R38: the derived register values. -/
def Obligations.DerivedRegisterValues : Prop :=
  ∀ s : State,
    paramBase s = (reg s .paramBase &&& 0x00F00000).toNat ∧
    regionBase s = (reg s .regionBase &&& 0x00FFFFFC).toNat ∧
    entryWords s = (if (reg s .fpuParamCfg).getLsbD 21 then 6 else 5) ∧
    twoVolumeEn s = !(reg s .fpuShadScale).getLsbD 8 ∧
    halfOffset s = (reg s .halfOffset).getLsbD 0 ∧
    bgTag s = reg s .ispBackgndT &&& 0x1FFFFFFF ∧
    bgDepth s = reg s .ispBackgndD ∧
    ptAlphaRef s = ((reg s .ptAlphaRef).extractLsb' 0 8).toNat ∧
    strideBytes s = ((reg s .fbWLinestride).extractLsb' 0 9).toNat * 8 ∧
    decode .fbPackmode (reg s .fbWCtrl) = decode .fbPackmode ((reg s .fbWCtrl).extractLsb' 0 3 |>.setWidth 32)

/-- R35: no step writes a register. -/
def Obligations.RegistersAreNeverWritten : Prop :=
  ∀ s t : State, step s = .next t → t.regs = s.regs

/-- R108 (marked derived): a frame writes VRAM in the writeback of a region entry with `no_writeout = 0` only. (The
positions `operand` are the model's own, log 22, and no frame comes to them.) The driver's positions (`ctl`) are the
model's own, log 1. -/
def Obligations.VramWrittenOnlyByWriteback : Prop :=
  ∀ s t : State, (∀ f a, s.ctl ≠ .operand f a) → step s = .next t → t.vram ≠ s.vram →
    s.ctl = .writeback ∧ s.entry.noWriteout = false

/-! ### Steps, reset, invariants -/

/-- At a fetch point a step runs the instruction its word decodes to, on the state the fetch leaves, and afterwards
puts the driver at rest if it stood at a single operand code (log 22). The fetch points are where the pass driver
reads a word: the pack mode, the region words, the object-list words (logs 1 and 23). -/
def Obligations.StepRunsDecodedInstruction : Prop :=
  (∀ (s : State) (f : Format) (src : FetchSource) (i : Instr), fetchPoint s = some (f, src) →
    fetchAligned src = true → decode f (fetchWord src s) = .ok i →
    step s = andThen (exec i (fetchState src s)) fun t =>
      .next (match t.ctl with | .operand _ _ => { t with ctl := .idle } | _ => t)) ∧
  (∀ s : State,
    (s.ctl = .checkPack → fetchPoint s = some (.fbPackmode, .register .fbWCtrl)) ∧
    (s.ctl = .region → fetchPoint s = some (.regionControl, .vram s.regionPtr)) ∧
    (s.ctl = .pointer → fetchPoint s = some (.listPointer, .vram (s.regionPtr + 4 + 4 * s.ptrIndex))) ∧
    (s.ctl = .walk → fetchPoint s = some (.objectList, .vram s.listPtr)) ∧
    (s.ctl = .writeback → s.entry.noWriteout = false → fetchPoint s = some (.fbPackmode, .register .fbWCtrl)))

/-- What reset leaves (R701; the values of what R701 leaves open are the model's, logs 3 to 8): no errors, no result,
an empty cache, the driver idle, every byte, register and pixel 0; and the invariant holds. -/
def Obligations.ResetState : Prop :=
  State.reset.errors = [] ∧ State.reset.result = none ∧ State.reset.fpuCache = [] ∧ State.reset.ctl = .idle ∧
  (∀ p, Memory.read State.reset.vram p = 0) ∧ (∀ r, reg State.reset r = 0) ∧
  (∀ i, pixel State.reset i = ⟨0, 0, 0, 0, 0, 0, 0, ⟨0, 0, 0, 0⟩⟩) ∧
  Inv State.reset

/-- The invariant is kept by every step, and no step from it faults: pointers stay whole numbers of words (R100), VRAM
and registers canonical, reserved buffer bits 0 (R42, R45), tile coordinates and the entry count in range. -/
def Obligations.InvariantIsKept : Prop :=
  ∀ s : State, Inv s → (∀ r, step s ≠ .fault r) ∧ ∀ t, step s = .next t → Inv t

/-- R56, R57, R304: every step keeps the cache a map from each tag to a primitive of that tag which the ISP
rasterizes: finite and of nonzero area. -/
def Obligations.CacheStaysSound : Prop :=
  ∀ s t : State, CacheSound s → step s = .next t → CacheSound t

/-- R603 (the ordered list is the spec's decision D44): during a frame errors are only appended. The driver's
positions (`ctl`) are the model's own, log 1. -/
def Obligations.ErrorsOnlyGrow : Prop :=
  ∀ s t : State, s.ctl ≠ .idle → step s = .next t → s.errors <+: t.errors

/-- R330 (marked derived): `more_to_draw` is set only by a fragment of a punch-through or auto-sort traversal. (The
positions `operand` are the model's own, log 22.) The driver's positions (`ctl`) are the model's own, log 1. -/
def Obligations.MoreToDrawOnlyInPeels : Prop :=
  ∀ s t : State, (∀ f a, s.ctl ≠ .operand f a) → step s = .next t → s.moreToDraw = false → t.moreToDraw = true →
    s.ctl = .walk ∧
      (s.mode = .punchthroughPass0 ∨ s.mode = .punchthroughPassN ∨ s.mode = .translucentAutosort)

/-- R356 (marked derived): stencil bit 2 is never set: it is 0 after reset (log 4), every step keeps it 0, and where
it is 0 an AND phase leaves no pixel inside. -/
def Obligations.AndBitIsNeverSet : Prop :=
  NoAndBit State.reset ∧ (∀ s t : State, NoAndBit s → step s = .next t → NoAndBit t) ∧
  ∀ (s : State) (i : Fin 1024), NoAndBit s → s.andPhase = true → inside s i = false

/-! ### Region entries and passes -/

/-- R240 and R49, R200 (the bound of 1024 entries is the spec's decision D33; one word a step, the count of steps and
the driver's positions are the model's, log 1): from the control word's fetch, the steps of one entry read its 5 or 6
words in order, fill the entry, and leave the driver at tile setup; the end of an entry moves on by 24 or 20 bytes. -/
def Obligations.RegionEntryIsRead : Prop :=
  ∀ s : State, s.ctl = .region → s.regionPtr % 4 = 0 →
    let six := (reg s .fpuParamCfg).getLsbD 21
    let n := if six then 6 else 5
    let word := fun k => word32 s.vram (s.regionPtr + 4 * k)
    let ptr := fun k => ListPointer.mk ((word k).getLsbD 31) ((word k &&& 0x00FFFFFC).toNat)
    runSteps n s = .next { touchAll (wordAddresses s.regionPtr n) s with
      entry :=
        { tilex := ((word 0).extractLsb' 2 6).toNat
          tiley := ((word 0).extractLsb' 8 6).toNat
          noWriteout := (word 0).getLsbD 28
          preSort := if six then (word 0).getLsbD 29 else (reg s .ispFeedCfg).getLsbD 0
          zKeep := (word 0).getLsbD 30
          lastRegion := (word 0).getLsbD 31
          opaqueList := ptr 1
          opaqueModList := ptr 2
          transList := ptr 3
          transModList := ptr 4
          ptList := if six then ptr 5 else ⟨true, 0⟩ }
      ptrIndex := n - 1
      ctl := .setup } ∧
    ∀ t : State, t.ctl = .entryEnd → t.regs = s.regs → t.entry.lastRegion = false → t.entryCount + 1 < 1024 →
      step t = .next { t with
        regionPtr := t.regionPtr + if six then 24 else 20, entryCount := t.entryCount + 1, ctl := .region }

/-- REGION, PTR and PTR_EMPTY complete from every state, with these effects and no other (R121 to R124, R240). The
driver's positions (`ctl`, `ptrIndex`) are the model's own, log 1. -/
def Obligations.RegionWordsComplete : Prop :=
  ∀ s : State,
    (∀ tx ty nw ps zk lr, exec (.region tx ty nw ps zk lr) s = .next { s with
      entry := { s.entry with
        tilex := tx
        tiley := ty
        noWriteout := nw
        preSort := if (reg s .fpuParamCfg).getLsbD 21 then ps else (reg s .ispFeedCfg).getLsbD 0
        zKeep := zk
        lastRegion := lr
        ptList := ⟨true, 0⟩ }
      ptrIndex := 0
      ctl := .pointer }) ∧
    (∀ p, exec (.ptr p) s = .next { s with
      entry := setPointer s.entry s.ptrIndex ⟨false, 4 * p⟩
      ptrIndex := s.ptrIndex + 1
      ctl := if s.ptrIndex + 2 < (if (reg s .fpuParamCfg).getLsbD 21 then 6 else 5) then .pointer else .setup }) ∧
    (∀ p, exec (.ptrEmpty p) s = .next { s with
      entry := setPointer s.entry s.ptrIndex ⟨true, 4 * p⟩
      ptrIndex := s.ptrIndex + 1
      ctl := if s.ptrIndex + 2 < (if (reg s .fpuParamCfg).getLsbD 21 then 6 else 5) then .pointer else .setup })

/-- R601 (checking once, before the first tile, is the spec's decision D32): from idle, an unsupported pack mode aborts
in two steps; otherwise three steps make the other checks in order and begin the walk of the region array at
`region_base`. The frame's first step empties the error list (R53, R603). The model's own choices: that an idle block is
called (log 2); the count of steps and the driver's positions (log 1); and that the first step forgets the last result
and sets the mode and the tile, which R53 says are cleared at the start without naming a value, to OPAQUE and (0, 0),
where they stay after an abort (log 6). Nothing else changes. -/
def Obligations.ConfigurationCheck : Prop :=
  ∀ s : State, s.ctl = .idle →
    let f := { s with errors := [], result := none, mode := .opaqueMode, tilex := 0, tiley := 0 }
    let aborted := fun field => { f with
      result := some (.aborted (.configurationUnsupported field) []), ctl := .idle }
    let pack := (reg s .fbWCtrl).extractLsb' 0 3
    let vscale := (reg s .scalerCtl).extractLsb' 0 16
    (pack ≠ 1 → pack ≠ 6 → runSteps 2 s = .next (aborted .fbPackmode)) ∧
    (pack = 1 ∨ pack = 6 → runSteps 3 s = .next (
      if vscale ≠ 0x400 ∧ vscale ≠ 0x401 ∧ vscale ≠ 0x800 then aborted .vscalefactor
      else if (reg s .scalerCtl).getLsbD 16 then aborted .hscale
      else if (reg s .scalerCtl).getLsbD 17 then aborted .interlace
      else { f with regionPtr := (reg s .regionBase &&& 0x00FFFFFC).toNat, entryCount := 0, ctl := .region }))

/-- R210 (the border colour and the depth clear are the spec's decision D1): what tile setup leaves. The driver's
positions (`ctl`) are the model's own, log 1. -/
def Obligations.TileSetup : Prop :=
  ∀ s : State, s.ctl = .setup → ∃ t, step s = .next t ∧
    t = { s with
      tile := t.tile, andPhase := t.andPhase, tilex := s.entry.tilex, tiley := s.entry.tiley, fpuCache := []
      ctl := .opaqueStart } ∧
    (s.entry.zKeep = false → t.andPhase = false ∧ ∀ i, pixel t i =
      { depthTest := if s.depthClearMode = .backgndD then reg s .ispBackgndD else 0x7F7FFFFF
        depthRef := 0x7F7FFFFF
        depthPrev := (pixel s i).depthPrev
        stencil := 0
        tag := reg s .ispBackgndT &&& 0x1FFFFFFF
        tagRef := 0xFFFFFFFF
        status := 0
        accum := ⟨(reg s .voBorderCol).extractLsb' 16 8, (reg s .voBorderCol).extractLsb' 8 8,
          (reg s .voBorderCol).extractLsb' 0 8, 255⟩ }) ∧
    (s.entry.zKeep = true → t.andPhase = s.andPhase ∧ ∀ i, pixel t i = { pixel s i with status := 0 })

/-- The order of a tile's passes and the end of a region entry (R49, R200, R201, R212 to R214, R216, R224 to R226,
R231; the modifier list of R224 and the presort of R226 are the spec's decisions D15 and D17, the report after 1024
entries D33). `walk s p m k`: the walk of list `p` in mode `m`, after which the driver goes on at `k`. The driver's
positions (`ctl`, `resume`) are the model's own, log 1. -/
def Obligations.PassesInOrder : Prop :=
  let walk := fun (s : State) (p : ListPointer) (m : RenderMode) (k : Ctl) =>
    { s with mode := m, listPtr := p.address, resume := k, ctl := .walk }
  let tags := fun (s : State) (m : RenderMode) (k : Ctl) =>
    andThen (renderParamTags m s) fun t => .next { t with ctl := k }
  ∀ s : State,
    (s.ctl = .opaqueStart → step s = .next (if s.entry.opaqueList.empty then { s with ctl := .ptStart }
      else walk s s.entry.opaqueList .opaqueMode .opaqueModStart)) ∧
    (s.ctl = .opaqueModStart → step s = .next (if s.entry.opaqueModList.empty then { s with ctl := .opaqueTags }
      else walk s s.entry.opaqueModList .modifier .opaqueTags)) ∧
    (s.ctl = .opaqueTags → step s = tags s .opaqueMode .ptStart) ∧
    (s.ctl = .ptStart → s.entry.ptList.empty = true → step s = .next { s with ctl := .transStart }) ∧
    (s.ctl = .ptTags → step s =
      tags { s with ptIteration := s.ptIteration + 1 } .punchthroughPass0 .ptIterate) ∧
    (s.ctl = .ptModStart → step s = .next (if s.entry.opaqueModList.empty then { s with ctl := .transStart }
      else walk s s.entry.opaqueModList .modifier .ptMvTags)) ∧
    (s.ctl = .ptMvTags → step s = tags s .punchthroughMv .transStart) ∧
    (s.ctl = .transStart → s.entry.transList.empty = true → step s = .next { s with ctl := .writeback }) ∧
    (s.ctl = .transStart → s.entry.transList.empty = false → s.entry.preSort = true →
      step s = .next (walk s s.entry.transList .translucentPresort .writeback)) ∧
    (s.ctl = .writeback → s.entry.noWriteout = true → step s = .next { s with ctl := .entryEnd }) ∧
    (s.ctl = .entryEnd → step s = .next (
      if s.entry.lastRegion then { s with result := some (.ok s.errors), ctl := .idle }
      else if s.entryCount + 1 < 1024 then
        { s with regionPtr := s.regionPtr + 4 * entryWords s, entryCount := s.entryCount + 1, ctl := .region }
      else { s with
        regionPtr := s.regionPtr + 4 * entryWords s
        errors := s.errors ++ [.noLastRegion], result := some (.ok (s.errors ++ [.noLastRegion])), ctl := .idle }))

/-- R217 to R221 and R323 (that `depth_test_prev` is `depth_test` as a PUNCHTHROUGH_PASSN traversal begins is the spec's
decision D14, that it is a buffer log 31; the driver's positions are log 1): the punch-through loop's initialisation,
clears, traversal mode, exit and copies. -/
def Obligations.PunchThroughLoop : Prop :=
  ∀ s : State, s.entry.ptList.empty = false →
    (s.ctl = .ptStart → ∃ t, step s = .next t ∧
      t = { s with tile := t.tile, ptIteration := 0, ctl := .ptIterate } ∧
      ∀ i, pixel t i = { pixel s i with depthRef := 0x7F7FFFFF }) ∧
    (s.ctl = .ptIterate → ∃ t, step s = .next t ∧
      t = { s with
        tile := t.tile
        moreToDraw := false
        mode := if s.ptIteration = 0 then .punchthroughPass0 else .punchthroughPassN
        listPtr := s.entry.ptList.address
        resume := .ptTest
        ctl := .walk } ∧
      ∀ i, (∀ k, (pixel t i).stencil.getLsbD k = (decide (k ≠ 0) && (pixel s i).stencil.getLsbD k)) ∧
        pixel t i = { pixel s i with
          stencil := (pixel t i).stencil
          depthPrev := if s.ptIteration = 0 then (pixel s i).depthPrev else (pixel s i).depthTest }) ∧
    (s.ctl = .ptTest → s.moreToDraw = false → step s = .next { s with ctl := .ptModStart }) ∧
    (s.ctl = .ptTest → s.moreToDraw = true → ∃ t, step s = .next t ∧
      t = { s with tile := t.tile, ctl := .ptTags } ∧
      ∀ i, pixel t i = { pixel s i with depthRef := (pixel s i).depthTest })

/-- R227 to R230 (clearing the whole stencil and keeping `tag_ref` are the spec's decision D16): the auto-sort loop's
initialisation, clears and copies, its two traversals and its end. The driver's positions (`ctl`, `resume`) are the
model's own, log 1. -/
def Obligations.AutosortLoop : Prop :=
  ∀ s : State, s.entry.transList.empty = false →
    (s.ctl = .transStart → s.entry.preSort = false → ∃ t, step s = .next t ∧
      t = { s with tile := t.tile, ctl := .sortIterate } ∧ ∀ i, pixel t i = { pixel s i with tag := 0xFFFFFFFF }) ∧
    (s.ctl = .sortIterate → ∃ t, step s = .next t ∧
      t = { s with
        tile := t.tile
        moreToDraw := false
        andPhase := false
        mode := .translucentAutosort
        listPtr := s.entry.transList.address
        resume := .sortModStart
        ctl := .walk } ∧
      ∀ i, pixel t i = { pixel s i with
        stencil := 0
        depthRef := (pixel s i).depthTest
        tagRef := (pixel s i).tag
        depthTest := 0x7F7FFFFF }) ∧
    (s.ctl = .sortModStart → step s = .next (if s.entry.transModList.empty then { s with ctl := .sortTags }
      else { s with
        mode := .modifier, listPtr := s.entry.transModList.address, resume := .sortTags, ctl := .walk })) ∧
    (s.ctl = .sortTags → step s =
      andThen (renderParamTags .translucentAutosort s) fun t => .next { t with ctl := .sortTest }) ∧
    (s.ctl = .sortTest → step s = .next { s with ctl := if s.moreToDraw then .sortIterate else .writeback })

/-! ### Object lists -/

/-- R247, R249 (the driver's position, which LINK_END puts to where the walk resumes, is the model's, log 1): LINK,
LINK_END and RESERVED_110 complete in every traversal, with these effects and no other. (In mode PUNCHTHROUGH_MV no
traversal runs, `RefusedInputs`.) -/
def Obligations.LinksAndUnknownEntries : Prop :=
  ∀ s : State, s.mode ≠ .punchthroughMv →
    (∀ n, exec (.link n) s = .next { s with listPtr := n * 4 }) ∧
    (∀ n, exec (.linkEnd n) s = .next { s with ctl := s.resume }) ∧
    (∀ low : BitVec 29, exec (.reserved110 low.toNat) s = .next { s with
      errors := s.errors ++ [.malformedList s.listPtr (0b110#3 ++ low)], listPtr := s.listPtr + 4 })

/-- STRIP, TARRAY and QARRAY complete in every mode that has a traversal, when nothing about their blocks is refused
(`blockOk`: a modifier block's VolumeMode 0 to 2, in presort no VQ or format-7 texture; the other modes have no
condition), move `listPtr` on by 4 and touch nothing drawing does not (R245, R250, R255, R257, R606). -/
def Obligations.ListEntriesComplete : Prop :=
  ∀ (s : State) (offs skip : Nat) (shadow : Bool), s.mode ≠ .punchthroughMv →
    (∀ mask, blockOk s.mode (stripHeader s offs shadow) → ∃ t, exec (.strip offs skip shadow mask) s = .next t ∧
      DrawFrame { s with listPtr := s.listPtr + 4 } t) ∧
    (∀ prims, (∀ k, k ≤ prims → blockOk s.mode (arrayHeader s 3 offs skip shadow k)) →
      ∃ t, exec (.tarray offs skip shadow prims) s = .next t ∧ DrawFrame { s with listPtr := s.listPtr + 4 } t) ∧
    (∀ prims, (∀ k, k ≤ prims → blockOk s.mode (arrayHeader s 4 offs skip shadow k)) →
      ∃ t, exec (.qarray offs skip shadow prims) s = .next t ∧ DrawFrame { s with listPtr := s.listPtr + 4 } t)

/-- Every refusal of R606 (D41, D15): the reserved codes refuse from every state; a modifier block of VolumeMode 3 to 7
refuses its list entry; the shader refuses VQ and format 7 in either set; every list entry refuses in mode
PUNCHTHROUGH_MV. -/
def Obligations.RefusedInputs : Prop :=
  (∀ s : State,
    exec .volReserved3 s = .refused (.volumeModeReserved 3) ∧ exec .volReserved4 s = .refused (.volumeModeReserved 4) ∧
    exec .volReserved5 s = .refused (.volumeModeReserved 5) ∧ exec .volReserved6 s = .refused (.volumeModeReserved 6) ∧
    exec .volReserved7 s = .refused (.volumeModeReserved 7) ∧ exec .tcwVq s = .refused .vqCompressed ∧
    ∀ a, exec (.fmtReserved7 a) s = .refused .pixelFmtReserved) ∧
  (∀ (s : State) (offs skip mask : Nat) (shadow : Bool), s.mode = .modifier →
    3 ≤ bits (stripHeader s offs shadow).isp 31 29 →
    exec (.strip offs skip shadow mask) s =
      .refused (.volumeModeReserved (bits (stripHeader s offs shadow).isp 31 29))) ∧
  (∀ (s : State) (offs skip prims k : Nat) (shadow : Bool), s.mode = .modifier → k ≤ prims →
    (∀ j, j < k → bits (arrayHeader s 3 offs skip shadow j).isp 31 29 < 3) →
    3 ≤ bits (arrayHeader s 3 offs skip shadow k).isp 31 29 →
    exec (.tarray offs skip shadow prims) s =
      .refused (.volumeModeReserved (bits (arrayHeader s 3 offs skip shadow k).isp 31 29))) ∧
  (∀ (s : State) (offs skip prims k : Nat) (shadow : Bool), s.mode = .modifier → k ≤ prims →
    (∀ j, j < k → bits (arrayHeader s 4 offs skip shadow j).isp 31 29 < 3) →
    3 ≤ bits (arrayHeader s 4 offs skip shadow k).isp 31 29 →
    exec (.qarray offs skip shadow prims) s =
      .refused (.volumeModeReserved (bits (arrayHeader s 4 offs skip shadow k).isp 31 29))) ∧
  (∀ (p : DrawParameters) (i : Fin 1024) (s : State), bit p.hdr.isp 25 = true →
    ¬ tcwOk p.hdr.tcw ∨ (p.hdr.twoVolume = true ∧ ¬ tcwOk p.hdr.tcw2) →
    shade p i s = .refused .vqCompressed ∨ shade p i s = .refused .pixelFmtReserved) ∧
  (∀ (i : Instr) (s : State), i.format = .objectList → s.mode = .punchthroughMv →
    exec i s = .refused .punchthroughMvTraversal)

/-- R255 to R257 (back-to-back blocks are the spec's decision D12, the bypass bit of a tag D9, the fold after each block
D18; what is ignored in a modifier word is log 37): an array of more than one primitive is its first primitive followed
by the array of the rest at the next block. An array of one primitive reads the block at `param_base + 4 * offs`,
rasterizes the triangle or quad of its vertices in order under the tag of offset 0, and in MODIFIER mode, where there
is no second set, then folds once by the block's VolumeMode. -/
def Obligations.ArrayIsItsPrimitives : Prop :=
  ∀ (s : State) (offs skip k : Nat) (shadow : Bool),
    let two := shadow && decide (s.mode ≠ .modifier) && !(reg s .fpuShadScale).getLsbD 8
    let hw := if two then 5 else 3
    let vstride := 3 + skip * (if two then 2 else 1)
    let block := paramBase s + offs * 4
    let isp := word32 s.vram block
    let tag := makeTag 0 offs skip shadow (if s.mode = .modifier then isp &&& 0xF8000000 else isp)
    let one := fun (n : Nat) (draw : Header → List Vertex → State → Res) (fold : Instr) =>
      let b := blockAt s.mode s.vram block skip two n
      andThen (draw b.hdr b.verts (touchAll (blockAddresses s.mode s.vram block skip two n) s)) fun t =>
        andThen (if s.mode = .modifier then exec fold t else .next t) fun u => .next { u with listPtr := u.listPtr + 4 }
    (s.mode ≠ .punchthroughMv → ∀ fold, decode .volumeMode isp = .ok fold →
      exec (.tarray offs skip shadow 0) s = one 3 (fun h v =>
        rasterizeTriangle h (vertexOf v 0) (vertexOf v 1) (vertexOf v 2) tag) fold ∧
      exec (.qarray offs skip shadow 0) s = one 4 (fun h v =>
        rasterizeQuad h (vertexOf v 0) (vertexOf v 1) (vertexOf v 2) (vertexOf v 3) tag) fold) ∧
    exec (.tarray offs skip shadow (k + 1)) s = andThen (exec (.tarray offs skip shadow 0) s) (fun t =>
      exec (.tarray (offs + hw + 3 * vstride) skip shadow k) { t with listPtr := s.listPtr }) ∧
    exec (.qarray offs skip shadow (k + 1)) s = andThen (exec (.qarray offs skip shadow 0) s) (fun t =>
      exec (.qarray (offs + hw + 4 * vstride) skip shadow k) { t with listPtr := s.listPtr })

/-- R250, R252, R354 (decoding all eight vertices is the spec's decision D38, the fold after each block D18; what is
ignored in a modifier word is log 37): a strip reads its block and rasterizes, for each set mask bit in order, the
triangle of these vertices with the tag of that position; in MODIFIER mode, where there is no second set, it then folds
once by the block's VolumeMode, also with an empty mask. -/
def Obligations.StripTriangleChoice : Prop :=
  ∀ (s : State) (offs skip mask : Nat) (shadow : Bool) (fold : Instr), s.mode ≠ .punchthroughMv →
    let block := paramBase s + offs * 4
    let isp := word32 s.vram block
    let two := shadow && decide (s.mode ≠ .modifier) && twoVolumeEn s
    let b := blockAt s.mode s.vram block skip two 8
    let tri := fun (i x y z : Nat) (u : State) =>
      if mask.testBit i then
        rasterizeTriangle b.hdr (vertexOf b.verts x) (vertexOf b.verts y) (vertexOf b.verts z)
          (makeTag i offs skip shadow (if s.mode = .modifier then isp &&& 0xF8000000 else isp)) u
      else .next u
    decode .volumeMode isp = .ok fold →
    exec (.strip offs skip shadow mask) s =
      andThen (tri 0 0 1 2 (touchAll (blockAddresses s.mode s.vram block skip two 8) s)) fun s0 =>
      andThen (tri 1 2 1 3 s0) fun s1 => andThen (tri 2 2 3 4 s1) fun s2 => andThen (tri 3 4 3 5 s2) fun s3 =>
      andThen (tri 4 4 5 6 s3) fun s4 => andThen (tri 5 6 5 7 s4) fun s5 =>
      andThen (if s.mode = .modifier then exec fold s5 else .next s5) fun t =>
        .next { t with listPtr := t.listPtr + 4 }

/-- R135, R136 (the layout is the spec's decision D9), R58 and R251 (marked derived): a tag carries its operands;
decoding it directly gives the header and the vertices the list entry rasterized from, in whatever polygon mode `m`;
and a quad's tag resolves to the same parameters from the cache (without the fourth vertex, log 29). R401, R713: of any
tag, stale ones included, a cache entry gives its parameters and changes nothing, and without one, or with the bypass
bit, the tag is decoded directly: the vertices VRAM holds, the header's and all eight vertices' addresses reported in
order, and a free vertex drawn for each one beyond the eighth (log 13). -/
def Obligations.TagsNameTheirTriangle : Prop :=
  (∀ (i offs skip : Nat) (shadow : Bool) (isp : Word), i < 8 → skip < 8 →
    let t := makeTag i offs skip shadow isp
    tagOffset t = i ∧ tagParamOffs t = offs % 2 ^ 21 ∧ tagSkip t = skip ∧ tagShadow t = shadow ∧
      tagBypass t = isp.getLsbD 21 ∧ t.toNat < 2 ^ 29) ∧
  (∀ (s : State) (m : RenderMode) (i offs skip : Nat) (shadow : Bool), m ≠ .modifier → i ≤ 5 → offs < 2 ^ 21 →
    skip < 8 →
    let b := blockAt m s.vram (paramBase s + offs * 4) skip (shadow && twoVolumeEn s) 8
    let t := makeTag i offs skip shadow b.hdr.isp
    (directDecode t s).1 = ⟨b.hdr, vertexOf b.verts (i + i % 2), vertexOf b.verts (i + 1 - i % 2),
      vertexOf b.verts (i + 2), none, t⟩) ∧
  (∀ (s : State) (m : RenderMode) (offs skip : Nat) (shadow : Bool), m ≠ .modifier → offs < 2 ^ 21 → skip < 8 →
    let b := blockAt m s.vram (paramBase s + offs * 4) skip (shadow && twoVolumeEn s) 3
    let t := makeTag 0 offs skip shadow b.hdr.isp
    (directDecode t s).1 = ⟨b.hdr, vertexOf b.verts 0, vertexOf b.verts 1, vertexOf b.verts 2, none, t⟩) ∧
  (∀ (s : State) (m : RenderMode) (offs skip : Nat) (shadow : Bool), m ≠ .modifier → offs < 2 ^ 21 → skip < 8 →
    let b := blockAt m s.vram (paramBase s + offs * 4) skip (shadow && twoVolumeEn s) 4
    let t := makeTag 0 offs skip shadow b.hdr.isp
    cacheLookup s t = some ⟨b.hdr, vertexOf b.verts 0, vertexOf b.verts 1, vertexOf b.verts 2,
      some (vertexOf b.verts 3), t⟩ →
    (resolve t s).1 = (directDecode t s).1 ∧
    (directDecode t s).1 = ⟨b.hdr, vertexOf b.verts 0, vertexOf b.verts 1, vertexOf b.verts 2, none, t⟩) ∧
  (∀ (t : Word) (s : State),
    let block := paramBase s + ((t.extractLsb' 3 21).toNat) * 4
    let skip := (t.extractLsb' 24 3).toNat
    let two := t.getLsbD 27 && twoVolumeEn s
    let b := blockAt .opaqueMode s.vram block skip two 8
    let i := (t.extractLsb' 0 3).toNat
    (∀ p, t.getLsbD 28 = false → cacheLookup s t = some p → resolve t s = ({ p with v3 := none }, s)) ∧
    (t.getLsbD 28 = true ∨ cacheLookup s t = none → resolve t s = directDecode t s) ∧
    (i ≤ 5 → (directDecode t s).1 = ⟨b.hdr, vertexOf b.verts (i + i % 2), vertexOf b.verts (i + 1 - i % 2),
      vertexOf b.verts (i + 2), none, t⟩) ∧
    (directDecode t s).1.hdr = b.hdr ∧ (directDecode t s).1.v3 = none ∧ (directDecode t s).1.tag = t ∧
    (directDecode t s).2 = { s with
      errors := s.errors ++ (blockAddresses .opaqueMode s.vram block skip two 8).flatMap fun a =>
        if 0x800000 ≤ a then [FrameError.addressOutOfRange a] else []
      freeDraws := s.freeDraws + (i - 5) })

/-- R142, R165, R167, R260, R261 (the order and the stride are the spec's decision D10, the 16-bit UV D20; which words
of a modifier vertex are read is log 37): where the words of a block's header and vertices lie, and that reading the
block reads the header's words, then each vertex's, in order. `p` is a vertex's address, `q` where its
second set begins. -/
def Obligations.VertexLayout : Prop :=
  (∀ (mode : RenderMode) (m : List Host.Cell) (block skip n : Nat) (two : Bool),
    let b := blockAt mode m block skip two n
    let flags := if mode = .modifier then word32 m block &&& 0xF8000000 else word32 m block
    let hw := if two then 5 else 3
    let vstride := 3 + skip * if two then 2 else 1
    let set := (if flags.getLsbD 25 then (if flags.getLsbD 22 then 1 else 2) else 0) + 1 +
      if flags.getLsbD 24 then 1 else 0
    b.hdr.isp = word32 m block ∧ b.hdr.tsp = word32 m (block + 4) ∧ b.hdr.tcw = word32 m (block + 8) ∧
    (two = true → b.hdr.tsp2 = word32 m (block + 12) ∧ b.hdr.tcw2 = word32 m (block + 16)) ∧
    (∀ k, k < n → vertexOf b.verts k = vertexAt m flags two (block + 4 * (hw + k * vstride))) ∧
    blockAddresses mode m block skip two n = (List.range hw).map (fun k => block + 4 * k) ++
      (List.range n).flatMap fun k => (List.range (3 + set + if two then set else 0)).map fun j =>
        block + 4 * (hw + k * vstride + j)) ∧
  (∀ (m : List Host.Cell) (isp : Word) (two : Bool) (p : Nat),
    let v := vertexAt m isp two p
    let uv := if isp.getLsbD 25 then (if isp.getLsbD 22 then 1 else 2) else 0
    let q := p + 12 + 4 * (uv + 1 + if isp.getLsbD 24 then 1 else 0)
    v.x = word32 m p ∧ v.y = word32 m (p + 4) ∧ v.z = word32 m (p + 8) ∧
    (isp.getLsbD 25 = true → isp.getLsbD 22 = false → v.u = word32 m (p + 12) ∧ v.v = word32 m (p + 16)) ∧
    (isp.getLsbD 25 = true → isp.getLsbD 22 = true →
      v.u = word32 m (p + 12) &&& 0xFFFF0000 ∧ v.v = word32 m (p + 12) <<< 16) ∧
    v.base = word32 m (p + 12 + 4 * uv) ∧
    (isp.getLsbD 24 = true → v.offset = word32 m (p + 16 + 4 * uv)) ∧
    (two = true →
      (isp.getLsbD 25 = true → isp.getLsbD 22 = false → v.u1 = word32 m q ∧ v.v1 = word32 m (q + 4)) ∧
      (isp.getLsbD 25 = true → isp.getLsbD 22 = true →
        v.u1 = word32 m q &&& 0xFFFF0000 ∧ v.v1 = word32 m q <<< 16) ∧
      v.base1 = word32 m (q + 4 * uv) ∧ (isp.getLsbD 24 = true → v.offset1 = word32 m (q + 4 + 4 * uv))))

/-! ### The ISP -/

/-- R301, R304, R305, R310 (decisions D2, D4, D11): a primitive with a coordinate that is not finite, and one whose
first three vertices have area 0, are skipped: nothing but the report changes; a culled primitive is skipped without
a report. -/
def Obligations.SkippedPrimitives : Prop :=
  ∀ (hdr : Header) (v0 v1 v2 v3 : Vertex) (tag : Word) (s : State),
    (vertexFinite v0 = false ∨ vertexFinite v1 = false ∨ vertexFinite v2 = false →
      rasterizeTriangle hdr v0 v1 v2 tag s = .next { s with errors := s.errors ++ [.numericDomain tag] }) ∧
    (vertexFinite v0 = false ∨ vertexFinite v1 = false ∨ vertexFinite v2 = false ∨ vertexFinite v3 = false →
      rasterizeQuad hdr v0 v1 v2 v3 tag s = .next { s with errors := s.errors ++ [.numericDomain tag] }) ∧
    ((f32Value v1.x - f32Value v0.x) * (f32Value v2.y - f32Value v0.y)
        - (f32Value v2.x - f32Value v0.x) * (f32Value v1.y - f32Value v0.y) = 0 →
      rasterizeTriangle hdr v0 v1 v2 tag s = .next { s with errors := s.errors ++ [.numericDomain tag] } ∧
      rasterizeQuad hdr v0 v1 v2 v3 tag s = .next { s with errors := s.errors ++ [.numericDomain tag] }) ∧
    (vertexFinite v0 = true → vertexFinite v1 = true → vertexFinite v2 = true → vertexFinite v3 = true →
      (planeOf v0 v1 v2).area2 ≠ 0 →
      culls (bits hdr.isp 28 27) (planeOf v0 v1 v2).area2 (reg s .fpuCullVal) = true →
      (∃ u, rasterizeTriangle hdr v0 v1 v2 tag s = .next { s with isp := u }) ∧
      ∃ u, rasterizeQuad hdr v0 v1 v2 v3 tag s = .next { s with isp := u })

/-- R302, R303, R307, R308 (decisions D2 to D4; R303 marked derived): the doubled area and its sign, positive where the
vertices run clockwise on a screen whose rows grow downward; the three edge functions, which add up to it, each zero
along its edge and the area at its own vertex; the weights, their quotients by the area; a triangle of nonzero area
covers exactly the points whose weights are all at least 0, edges included; the depth is the weighted sum of the vertex
depths, rounded once, and at a covered point it is finite and lies between the least and the greatest vertex depth. -/
def Obligations.CoverageAndDepth : Prop :=
  ∀ (v0 v1 v2 : Vertex) (px py : Rat), vertexFinite v0 = true → vertexFinite v1 = true → vertexFinite v2 = true →
    let t := planeOf v0 v1 v2
    let w := t.weights px py
    let x0 := f32Value v0.x
    let y0 := f32Value v0.y
    let x1 := f32Value v1.x
    let y1 := f32Value v1.y
    let x2 := f32Value v2.x
    let y2 := f32Value v2.y
    t.area2 = (x1 - x0) * (y2 - y0) - (x2 - x0) * (y1 - y0) ∧
    t.e0 px py = (x2 - x1) * (py - y1) - (y2 - y1) * (px - x1) ∧
    t.e1 px py = (x0 - x2) * (py - y2) - (y0 - y2) * (px - x2) ∧
    t.e2 px py = (x1 - x0) * (py - y0) - (y1 - y0) * (px - x0) ∧
    t.e0 px py + t.e1 px py + t.e2 px py = t.area2 ∧
    t.e0 x0 y0 = t.area2 ∧ t.e1 x1 y1 = t.area2 ∧ t.e2 x2 y2 = t.area2 ∧
    (∀ r : Rat, t.e0 (x1 + r * (x2 - x1)) (y1 + r * (y2 - y1)) = 0 ∧
      t.e1 (x2 + r * (x0 - x2)) (y2 + r * (y0 - y2)) = 0 ∧ t.e2 (x0 + r * (x1 - x0)) (y0 + r * (y1 - y0)) = 0) ∧
    (t.area2 ≠ 0 → w.l0 = t.e0 px py / t.area2 ∧ w.l1 = t.e1 px py / t.area2 ∧ w.l2 = t.e2 px py / t.area2 ∧
      t.depth px py = rne32 (w.l0 * f32Value v0.z + w.l1 * f32Value v1.z + w.l2 * f32Value v2.z)) ∧
    (t.area2 = 0 → t.covers px py = false) ∧
    (t.area2 ≠ 0 → (t.covers px py = true ↔ 0 ≤ w.l0 ∧ 0 ≤ w.l1 ∧ 0 ≤ w.l2)) ∧
    (t.covers px py = true → f32Finite (t.depth px py) = true ∧
      min (f32Value v0.z) (min (f32Value v1.z) (f32Value v2.z)) ≤ f32Value (t.depth px py) ∧
      f32Value (t.depth px py) ≤ max (f32Value v0.z) (max (f32Value v1.z) (f32Value v2.z)))

/-- R307 to R311, R320, R321 (decisions D2, D3, D11, D13): in mode OPAQUE a finite triangle or quad whose first three
vertices have nonzero area and which is not culled completes; afterwards exactly the pixels whose sample point it
covers and whose depth test passes hold its depth (unless ZWriteDis) and tag with WRITTEN cleared, every other pixel
is as before, and the cache holds the primitive under its tag. A quad covers the union of `(v0, v1, v3)` and `(v1, v2,
v3)`, takes every depth from the plane of `(v0, v1, v2)`. In every mode, of a triangle and of a quad, the mode's rule
is applied to each covered pixel once (row by row, log 17), after the cache took the primitive, which it does but in
MODIFIER. -/
def Obligations.OpaqueTriangleFillsItsCoverage : Prop :=
  ∀ (hdr : Header) (v0 v1 v2 v3 : Vertex) (tag : Word) (s : State),
    vertexFinite v0 = true → vertexFinite v1 = true → vertexFinite v2 = true → (planeOf v0 v1 v2).area2 ≠ 0 →
    culls (bits hdr.isp 28 27) (planeOf v0 v1 v2).area2 (reg s .fpuCullVal) = false →
    let half : Rat := if (reg s .halfOffset).getLsbD 0 then 1 / 2 else 0
    let x := fun (i : Fin 1024) => ((32 * s.tilex + i.val % 32 : Nat) : Rat) + half
    let y := fun (i : Fin 1024) => ((32 * s.tiley + i.val / 32 : Nat) : Rat) + half
    let zf := fun (i : Fin 1024) => (planeOf v0 v1 v2).depth (x i) (y i)
    let tri := DrawParameters.mk hdr v0 v1 v2 none tag
    let quad := DrawParameters.mk hdr v0 v1 v2 (some v3) tag
    let inTri := fun (i : Fin 1024) => (planeOf v0 v1 v2).covers (x i) (y i)
    let inQuad := fun (i : Fin 1024) =>
      (planeOf v0 v1 v3).covers (x i) (y i) || (planeOf v1 v2 v3).covers (x i) (y i)
    let fills := fun (r : Res) (p : DrawParameters) (covered : Fin 1024 → Bool) =>
      ∃ t, r = .next t ∧ DrawFrame s t ∧ t.errors = s.errors ∧
        t.moreToDraw = s.moreToDraw ∧ t.andPhase = s.andPhase ∧ cacheLookup t tag = some p ∧
        ∀ i, pixel t i =
          if covered i ∧ depthPasses (hdr.isp.extractLsb' 29 3).toNat (zf i) (pixel s i).depthTest = true then
            { pixel s i with
              depthTest := if hdr.isp.getLsbD 26 then (pixel s i).depthTest else zf i
              tag := tag
              status := (pixel s i).status &&& 0xFE }
          else pixel s i
    let visits := fun (p : DrawParameters) (covered : Fin 1024 → Bool) =>
      forEach (fun i u => if covered i then pixelRule p (zf i) i u else .next u) (List.finRange 1024) { s with
        isp := { s.isp with area2 := (planeOf v0 v1 v2).area2, culled := false }
        fpuCache := if s.mode = .modifier then s.fpuCache else (tag, p) :: s.fpuCache.filter fun e => e.1 != tag }
    (s.mode = .opaqueMode → fills (rasterizeTriangle hdr v0 v1 v2 tag s) tri inTri) ∧
    (vertexFinite v3 = true → s.mode = .opaqueMode → fills (rasterizeQuad hdr v0 v1 v2 v3 tag s) quad inQuad) ∧
    rasterizeTriangle hdr v0 v1 v2 tag s = visits tri inTri ∧
    (vertexFinite v3 = true → rasterizeQuad hdr v0 v1 v2 v3 tag s = visits quad inQuad)

/-- R321, R322, R323, R326, R327, R328 (clearing WRITTEN is the spec's decision D13, `depth_test_prev` D14, the
auto-sort tests D16, presort D17, the modifier test D18): what a fragment does to its pixel and to `more_to_draw` in
each mode that writes through the ISP, where no other pixel changes; and in presort a fragment that passes the
DepthMode test is shaded inline at its pixel (without a fourth vertex, log 29), one that fails changes nothing but the
units' registers. -/
def Obligations.PixelRulesOfTheModes : Prop :=
  ∀ (p : DrawParameters) (zf : Word) (i : Fin 1024) (s : State),
    let px := pixel s i
    let isp := p.hdr.isp
    let pass := depthPasses (isp.extractLsb' 29 3).toNat zf px.depthTest
    let written := { px with
      depthTest := if isp.getLsbD 26 then px.depthTest else zf, tag := p.tag, status := px.status &&& 0xFE }
    let does := fun (cond : Bool) (new : Pixel) (peel : Bool) => ∃ t, pixelRule p zf i s = .next t ∧
      DrawFrame s t ∧ t.fpuCache = s.fpuCache ∧ t.andPhase = s.andPhase ∧ OtherPixels i s t ∧
      pixel t i = (if cond then new else px) ∧ t.moreToDraw = (s.moreToDraw || (cond && peel))
    (s.mode = .opaqueMode → does pass written false) ∧
    (s.mode = .punchthroughPass0 → does (pass && f32Lt zf px.depthRef) written true) ∧
    (s.mode = .punchthroughPassN → does (pass && f32Lt zf px.depthRef && f32Lt px.depthPrev zf) written true) ∧
    (s.mode = .translucentAutosort → does
      ((f32Lt px.depthRef zf || (f32Eq zf px.depthRef && decide (p.tag.toNat < px.tagRef.toNat))) &&
        (f32Lt zf px.depthTest || (f32Eq zf px.depthTest && decide (px.tag.toNat < p.tag.toNat))))
      { px with depthTest := zf, tag := p.tag, status := px.status &&& 0xFE } true) ∧
    (s.mode = .translucentPresort →
      let u := { s with pix := i, isp := { s.isp with zf := zf, pass := pass } }
      pixelRule p zf i s = if pass then shadeInline { p with v3 := none } i u else .next u) ∧
    (s.mode = .modifier → does (f32Lt px.depthTest zf) { px with stencil := px.stencil ||| 1 } false)

/-- R324 (marked derived): where `depth_ref` is `depth_test_prev` at every pixel, as the loop leaves them when a
PUNCHTHROUGH_PASSN traversal begins, no list entry of that traversal writes a pixel or sets `more_to_draw`. -/
def Obligations.PassNNeverWrites : Prop :=
  ∀ (i : Instr) (s t : State), i.format = .objectList → s.mode = .punchthroughPassN →
    (∀ j, (pixel s j).depthRef = (pixel s j).depthPrev) → exec i s = .next t →
    t.tile = s.tile ∧ t.moreToDraw = s.moreToDraw

/-- R331 (marked derived): the fragment an auto-sort iteration selects at a pixel does not depend on the order in which
the fragments arrive, if no two have equal depth and equal tag. A fragment is a depth that is no NaN and a tag. -/
def Obligations.AutosortOrderIndependent : Prop :=
  ∀ (l l' : List (Word × Word)) (i : Fin 1024) (s : State), l.Perm l' → (∀ f ∈ l, f32NaN f.1 = false) →
    l.Pairwise (fun f g => ¬ (f32Eq f.1 g.1 = true ∧ f.2 = g.2)) →
    l.foldl (fun u f => pixelAutosort f.2 f.1 i u) s = l'.foldl (fun u f => pixelAutosort f.2 f.1 i u) s

/-- R232 (marked derived): in an auto-sort traversal `depth_ref` stays as it is and `depth_test` stays at or above it,
if it is there when a list entry begins. -/
def Obligations.PeelStaysAboveReference : Prop :=
  ∀ (i : Instr) (s t : State), i.format = .objectList → s.mode = .translucentAutosort →
    (∀ j, (f32Lt (pixel s j).depthRef (pixel s j).depthTest || f32Eq (pixel s j).depthRef (pixel s j).depthTest) = true) →
    exec i s = .next t →
    ∀ j, (pixel t j).depthRef = (pixel s j).depthRef ∧
      (f32Lt (pixel t j).depthRef (pixel t j).depthTest || f32Eq (pixel t j).depthRef (pixel t j).depthTest) = true

/-- R327, R403 (writing no tag and no status is the spec's decision D17): in a presort traversal no list entry changes
anything of a pixel but its colour. -/
def Obligations.PresortWritesColourOnly : Prop :=
  ∀ (i : Instr) (s t : State), i.format = .objectList → s.mode = .translucentPresort → exec i s = .next t →
    (∀ j, pixel t j = { pixel s j with accum := (pixel t j).accum }) ∧ t.moreToDraw = s.moreToDraw ∧
      t.andPhase = s.andPhase

/-- R147, R325, R148 (IEEE comparisons are the spec's decision D2, the cull table D4; an infinite or NaN threshold is
the model's, log 16): the eight DepthMode and four CullMode codes complete and set the ISP's outcome, which is what
the rasterizer tests of an ISP word's codes. `f32Value` of an infinity is beyond every finite value (plus or minus
2^128). -/
def Obligations.IspCodes : Prop :=
  ∀ s : State,
    let z := s.isp.zf
    let zb := (pixel s s.pix).depthTest
    let passes := fun (i : Instr) (b : Bool) => exec i s = .next { s with isp := { s.isp with pass := b } }
    let culled := fun (i : Instr) (b : Bool) => exec i s = .next { s with isp := { s.isp with culled := b } }
    let area := s.isp.area2 / 2
    let small := if f32Finite (reg s .fpuCullVal) then decide (|area| < |f32Value (reg s .fpuCullVal)|)
      else !f32NaN (reg s .fpuCullVal)
    passes .depthNever false ∧ passes .depthAlways true ∧
    (f32NaN z = true ∨ f32NaN zb = true → passes .depthLess false ∧ passes .depthEqual false ∧
      passes .depthLessequal false ∧ passes .depthGreater false ∧ passes .depthNotequal true ∧
      passes .depthGreaterequal false) ∧
    (f32NaN z = false → f32NaN zb = false →
      passes .depthLess (decide (f32Value z < f32Value zb)) ∧ passes .depthEqual (decide (f32Value z = f32Value zb)) ∧
      passes .depthLessequal (decide (f32Value z ≤ f32Value zb)) ∧
      passes .depthGreater (decide (f32Value zb < f32Value z)) ∧
      passes .depthNotequal (decide (f32Value z ≠ f32Value zb)) ∧
      passes .depthGreaterequal (decide (f32Value zb ≤ f32Value z))) ∧
    culled .cullNone false ∧ culled .cullSmall small ∧ culled .cullNegative (small || decide (s.isp.area2 < 0)) ∧
    culled .cullPositive (small || decide (0 < s.isp.area2)) ∧
    (∀ (w : Word) (i : Instr), decode .depthMode w = .ok i →
      passes i (depthPasses (w.extractLsb' 29 3).toNat z zb)) ∧
    (∀ (w : Word) (i : Instr), decode .cullMode w = .ok i →
      culled i (culls (w.extractLsb' 27 2).toNat s.isp.area2 (reg s .fpuCullVal))) ∧
    ∀ a b : Word, f32Lt a b = (!f32NaN a && !f32NaN b && decide (f32Value a < f32Value b)) ∧
      f32Eq a b = (!f32NaN a && !f32NaN b && decide (f32Value a = f32Value b))

/-! ### Stencil -/

/-- R352: VOL_OR ORs bit 0 into bit 1 and clears bit 0 at every pixel, and changes nothing else. -/
def Obligations.StencilOrFold : Prop :=
  ∀ (s : State) (c : Nat), ∃ t, exec (.volOr c) s = .next t ∧ t = { s with tile := t.tile } ∧
    ∀ i, pixel t i = { pixel s i with stencil := (pixel t i).stencil } ∧
      ∀ k, (pixel t i).stencil.getLsbD k =
        if k = 0 then false
        else if k = 1 then (pixel s i).stencil.getLsbD 1 || (pixel s i).stencil.getLsbD 0
        else (pixel s i).stencil.getLsbD k

/-- R353, R354 (setting `and_phase` is the spec's decision D18): VOL_AND ANDs bit 0 into bit 2, clears bit 0 at every
pixel and sets `and_phase`; VOL_NONE does nothing. -/
def Obligations.StencilAndFold : Prop :=
  ∀ (s : State) (c : Nat), exec (.volNone c) s = .next s ∧
    ∃ t, exec (.volAnd c) s = .next t ∧ t = { s with tile := t.tile, andPhase := true } ∧
      ∀ i, pixel t i = { pixel s i with stencil := (pixel t i).stencil } ∧
        ∀ k, (pixel t i).stencil.getLsbD k =
          if k = 0 then false
          else if k = 2 then (pixel s i).stencil.getLsbD 2 && (pixel s i).stencil.getLsbD 0
          else (pixel s i).stencil.getLsbD k

/-! ### The TSP -/

/-- R460, R461 (the operands of "other" are the spec's decision D29): the eight SRC codes put `mul8(s, SF)` into the
source term; the eight DST codes add `mul8(d, DF)` to it, saturating, into the accumulator at the current pixel, and
change nothing else. -/
def Obligations.BlendCodes : Prop :=
  ∀ s : State,
    let c := s.tsp.c
    let d := (pixel s s.pix).accum
    let grey := fun (x : Byte) => Color.mk x x x x
    let inv := fun (x : Color) => Color.mk (255 - x.r) (255 - x.g) (255 - x.b) (255 - x.a)
    let src := fun (i : Instr) (f : Color) => exec i s = .next { s with tsp := { s.tsp with
      srcTerm := ⟨mul8 c.r f.r, mul8 c.g f.g, mul8 c.b f.b, mul8 c.a f.a⟩ } }
    let sum := fun (x y f : Byte) => BitVec.ofNat 8 (min 255 (x.toNat + (mul8 y f).toNat))
    let dst := fun (i : Instr) (f : Color) => ∃ t, exec i s = .next t ∧ t = { s with tile := t.tile } ∧
      OtherPixels s.pix s t ∧ pixel t s.pix = { pixel s s.pix with
        accum := ⟨sum s.tsp.srcTerm.r d.r f.r, sum s.tsp.srcTerm.g d.g f.g, sum s.tsp.srcTerm.b d.b f.b,
          sum s.tsp.srcTerm.a d.a f.a⟩ }
    src .srcZero (grey 0) ∧ src .srcOne (grey 255) ∧ src .srcOther d ∧ src .srcInvother (inv d) ∧
    src .srcSrcalpha (grey c.a) ∧ src .srcInvsrcalpha (grey (255 - c.a)) ∧ src .srcDstalpha (grey d.a) ∧
    src .srcInvdstalpha (grey (255 - d.a)) ∧
    dst .dstZero (grey 0) ∧ dst .dstOne (grey 255) ∧ dst .dstOther c ∧ dst .dstInvother (inv c) ∧
    dst .dstSrcalpha (grey c.a) ∧ dst .dstInvsrcalpha (grey (255 - c.a)) ∧ dst .dstDstalpha (grey d.a) ∧
    dst .dstInvdstalpha (grey (255 - d.a))

/-- 44_tsp.md's colour arithmetic (decision D27) does not wrap: `mul8`, `lerp8` and the saturating sum are exact, 255
and 0 are their unit and zero, and one/zero blending stores the shaded colour (R461). -/
def Obligations.ColourArithmetic : Prop :=
  (∀ a b : Byte, (mul8 a b).toNat = (a.toNat * b.toNat + 127) / 255 ∧ mul8 a 255 = a ∧ mul8 a 0 = 0) ∧
  (∀ a b f : Byte, (lerp8 a b f).toNat = (b.toNat * f.toNat + a.toNat * (255 - f.toNat) + 127) / 255 ∧
    lerp8 a b 0 = a ∧ lerp8 a b 255 = b) ∧
  (∀ a b : Byte, (add8 a b).toNat = min (a.toNat + b.toNat) 255) ∧
  (∀ s : State, bits s.tsp.tspWord 31 29 = 1 → bits s.tsp.tspWord 28 26 = 0 →
    (pixel (blendPixel s) s.pix).accum = s.tsp.c)

/-- R440, R445 and R404 to R409, R441, R450, R461 (decisions D20, D21, D27, D28): the four SHAD codes combine the
texture colour and the base colour, the four FOG codes move the colour towards a fog colour; nothing else changes. Of
a 1/w that is not finite no rule gives a table alpha: there it is some byte, the model's free value (log 14). And the
shading pipeline that runs the codes: over a plane of finite coordinates and nonzero area it interpolates the
attributes with perspective correction (flat colours are the third vertex's; base alpha 255 without UseAlpha; texture
coordinates 0 and a report where one is not finite), samples by the filter code, sets the texel alpha to 255 with
IgnoreTexA, combines by the shading code, adds the offset colour, runs the fog code, clamps (a texture word refused
for two reasons is refused as VQ, log 30); the blend is the SRC code and then the DST code of the TSP word. -/
def Obligations.ColourCodes : Prop :=
  (∀ s : State,
    let x := s.tsp.tex
    let b := s.tsp.base
    let c := s.tsp.c
    let gives := fun (i : Instr) (c : Color) => exec i s = .next { s with tsp := { s.tsp with c := c } }
    let toward := fun (w : Word) (f : Byte) => Color.mk (lerp8 c.r (w.extractLsb' 16 8) f)
      (lerp8 c.g (w.extractLsb' 8 8) f) (lerp8 c.b (w.extractLsb' 0 8) f) c.a
    let table := fun (f : Byte) => toward (reg s .fogColRam) f
    let tableAlpha := fun (f : Byte) => Color.mk ((reg s .fogColRam).extractLsb' 16 8)
      ((reg s .fogColRam).extractLsb' 8 8) ((reg s .fogColRam).extractLsb' 0 8) f
    gives .shadDecal x ∧
    gives .shadModulate ⟨mul8 x.r b.r, mul8 x.g b.g, mul8 x.b b.b, x.a⟩ ∧
    gives .shadDecalalpha ⟨lerp8 b.r x.r x.a, lerp8 b.g x.g x.a, lerp8 b.b x.b x.a, b.a⟩ ∧
    gives .shadModulatealpha ⟨mul8 x.r b.r, mul8 x.g b.g, mul8 x.b b.b, mul8 x.a b.a⟩ ∧
    exec .fogNone s = .next s ∧
    gives .fogVertex (toward (reg s .fogColVert) s.tsp.offset.a) ∧
    (f32Finite s.tsp.zf = true →
      gives .fogTable (table (fogTableAlpha s s.tsp.zf)) ∧
      gives .fogTablealpha (tableAlpha (fogTableAlpha s s.tsp.zf))) ∧
    (f32Finite s.tsp.zf = false → ∃ f,
      exec .fogTable s =
        .next { s with tsp := { s.tsp with c := table f }, freeDraws := s.freeDraws + 1 } ∧
      exec .fogTablealpha s =
        .next { s with tsp := { s.tsp with c := tableAlpha f }, freeDraws := s.freeDraws + 1 })) ∧
  (∀ (s : State) (src dst : Instr), decode .srcInstr s.tsp.tspWord = .ok src →
    decode .dstInstr s.tsp.tspWord = .ok dst → andThen (exec src s) (exec dst) = .next (blendPixel s)) ∧
  (∀ (p : DrawParameters) (second : Bool) (s : State) (filter shad fog : Instr),
    let isp := p.hdr.isp
    let w := if second then p.hdr.tsp2 else p.hdr.tsp
    let tcw := if second then p.hdr.tcw2 else p.hdr.tcw
    decode .filterMode w = .ok filter → decode .shadInstr w = .ok shad → decode .fogCtrl w = .ok fog →
    vertexFinite p.v0 = true → vertexFinite p.v1 = true → vertexFinite p.v2 = true →
    (planeOf p.v0 p.v1 p.v2).area2 ≠ 0 →
    let t := planeOf p.v0 p.v1 p.v2
    let l := t.weights (sampleX s s.pix) (sampleY s s.pix)
    let den := l.l0 * t.z0 + l.l1 * t.z1 + l.l2 * t.z2
    let mix := fun (a0 a1 a2 : Rat) => if den = 0 then l.l0 * a0 + l.l1 * a1 + l.l2 * a2
      else (l.l0 * a0 * t.z0 + l.l1 * a1 * t.z1 + l.l2 * a2 * t.z2) / den
    let channel := fun (a0 a1 a2 : Byte) =>
      BitVec.ofNat 8 (min (max ⌊mix a0.toNat a1.toNat a2.toNat + 1 / 2⌋ 0) 255).toNat
    let colour := fun (c0 c1 c2 : Word) =>
      let at_ := fun (lo : Nat) => if isp.getLsbD 23 then
        channel (c0.extractLsb' lo 8) (c1.extractLsb' lo 8) (c2.extractLsb' lo 8) else c2.extractLsb' lo 8
      Color.mk (at_ 16) (at_ 8) (at_ 0) (at_ 24)
    let u := fun (v : Vertex) => if second then v.u1 else v.u
    let v := fun (v : Vertex) => if second then v.v1 else v.v
    let base := fun (v : Vertex) => if second then v.base1 else v.base
    let offset := fun (v : Vertex) => if second then v.offset1 else v.offset
    let finite := f32Finite (u p.v0) && f32Finite (u p.v1) && f32Finite (u p.v2) &&
      f32Finite (v p.v0) && f32Finite (v p.v1) && f32Finite (v p.v2)
    let coordinate := fun (a : Vertex → Word) => if finite then
      mix (f32Value (a p.v0)) (f32Value (a p.v1)) (f32Value (a p.v2)) else 0
    let a : State := { s with
      errors := s.errors ++ if isp.getLsbD 25 && !finite then [.numericDomain p.tag] else []
      tsp := { s.tsp with
        params := p
        tspWord := w
        tcw := tcw
        u := if isp.getLsbD 25 then coordinate u else s.tsp.u
        v := if isp.getLsbD 25 then coordinate v else s.tsp.v
        base :=
          let c := colour (base p.v0) (base p.v1) (base p.v2)
          if w.getLsbD 20 then c else { c with a := 255 }
        offset := if isp.getLsbD 24 then colour (offset p.v0) (offset p.v1) (offset p.v2) else ⟨0, 0, 0, 0⟩
        zf := rne32 den } }
    let sampled := if tcw.getLsbD 30 then .refused .vqCompressed
      else if tcw.extractLsb' 27 3 = 7#3 then .refused .pixelFmtReserved
      else andThen (if tcw.getLsbD 31 then exec .tcwMipmapped a else .next { a with tsp := { a.tsp with
          level := 0, nu := 8 * 2 ^ (w.extractLsb' 3 3).toNat, nv := 8 * 2 ^ (w.extractLsb' 0 3).toNat } }) fun b =>
        andThen (exec filter b) fun c => exec shad { c with tsp := { c.tsp with
          tex := if w.getLsbD 19 then { c.tsp.tex with a := 255 } else c.tsp.tex } }
    let add := fun (x y : Byte) => BitVec.ofNat 8 (min (x.toNat + y.toNat) 255)
    let clamp := fun (x : Byte) (lo : Nat) =>
      BitVec.ofNat 8 (min (max x.toNat ((reg s .fogClampMin).extractLsb' lo 8).toNat)
        ((reg s .fogClampMax).extractLsb' lo 8).toNat)
    shadeSet p second s =
      andThen (if isp.getLsbD 25 then sampled else .next { a with tsp := { a.tsp with c := a.tsp.base } }) fun b =>
      andThen (exec fog (if isp.getLsbD 24 then { b with tsp := { b.tsp with
        c := ⟨add b.tsp.c.r b.tsp.offset.r, add b.tsp.c.g b.tsp.offset.g, add b.tsp.c.b b.tsp.offset.b, b.tsp.c.a⟩ } }
        else b)) fun d =>
      .next (if w.getLsbD 21 then { d with tsp := { d.tsp with
        c := ⟨clamp d.tsp.c.r 16, clamp d.tsp.c.g 8, clamp d.tsp.c.b 0, clamp d.tsp.c.a 24⟩ } } else d))

/-- R446, R447 (decision D28): of a finite 1/w the fog coordinate has exponent 0 to 7, the index is three exponent bits
above four mantissa bits and names one of the 128 entries, the interpolation does not wrap, and a product at or below 1
reads the first entry's upper value. -/
def Obligations.FogTableAlphaInRange : Prop :=
  ∀ (s : State) (zf : Word), f32Finite zf = true →
    let mant := ((reg s .fogDensity).extractLsb' 8 8).toNat
    let density : Rat := (mant : Rat) / 128 * (2 : Rat) ^ ((reg s .fogDensity).extractLsb' 0 8).toInt
    let b := fogCoordinate s zf
    let e := (b.extractLsb' 23 8).toNat
    let entry := reg s (.fogTable (16 * (e - 127) + (b.extractLsb' 19 4).toNat))
    let bf := (b.extractLsb' 11 8).toNat
    b = rne32 (min (max (density * f32Value zf) 1) (f32Value 0x437FFFFF)) ∧
    b.getLsbD 31 = false ∧ 127 ≤ e ∧ e ≤ 134 ∧ fogIndex b = 16 * (e - 127) + (b.extractLsb' 19 4).toNat ∧
    (fogTableAlpha s zf).toNat =
      ((entry.extractLsb' 0 8).toNat * bf + (entry.extractLsb' 8 8).toNat * (255 - bf)) / 256 ∧
    (density * f32Value zf ≤ 1 → b = 0x3F800000)

/-- R12: `rne32` gives a nearest finite value, the even one of two equally near; exactly from the midpoint above FLT_MAX
on it gives the infinity of the number's sign; and every finite pattern but minus zero is its own rounding (log 15). -/
def Obligations.RoundingIsNearestEven : Prop :=
  (∀ q : Rat, f32Finite (rne32 q) = true ↔ |q| < 2 ^ 128 - 2 ^ 103) ∧
  (∀ q : Rat, 2 ^ 128 - 2 ^ 103 ≤ q → rne32 q = 0x7F800000 ∧ rne32 (-q) = 0xFF800000) ∧
  (∀ (q : Rat) (w : Word), f32Finite (rne32 q) = true → f32Finite w = true →
    |f32Value (rne32 q) - q| ≤ |f32Value w - q| ∧
    (|f32Value (rne32 q) - q| = |f32Value w - q| → f32Value w ≠ f32Value (rne32 q) →
      (rne32 q).getLsbD 0 = false)) ∧
  (∀ w : Word, f32Finite w = true → w ≠ 0x80000000 → rne32 (f32Value w) = w)

/-- R413 (decisions D42, D22) and R431: addressing stays inside the level and clamps, mirrors or wraps, clamp first;
the bilinear sum does not wrap, and of four equal texels it is that texel. -/
def Obligations.SamplingArithmetic : Prop :=
  (∀ (i : Int) (n : Nat) (f : Bool), 0 < n →
    (addressTexel i n true f : Int) = max 0 (min i ((n : Int) - 1)) ∧
    (addressTexel i n false false : Int) = i % n ∧
    (addressTexel i n false true : Int) = (if i % (2 * n) < n then i % (2 * n) else 2 * n - 1 - i % (2 * n)) ∧
    ∀ c, addressTexel i n c f < n) ∧
  (∀ (t00 t10 t01 t11 : Byte) (wu wv : Nat), wu ≤ 256 → wv ≤ 256 →
    (bilinearChannel t00 t10 t01 t11 wu wv).toNat =
      (t00.toNat * (256 - wu) * (256 - wv) + t10.toNat * wu * (256 - wv) + t01.toNat * (256 - wu) * wv
        + t11.toNat * wu * wv) / 65536 ∧
    bilinearChannel t00 t00 t00 t00 wu wv = t00)

/-- R154, R420, R430, R431 (decision D22): FILTER_POINT fetches the texel under the coordinates; the three bilinear
codes fetch four texels in the order t00, t10, t01, t11 and mix them; nothing but the TSP's registers, free values and
reports changes. Fetching a texel is executing the FMT code of the texture word at the texel's coordinates. -/
def Obligations.FilterCodes : Prop :=
  ∀ s : State,
    let n := s.tsp
    let au := fun (i : Int) => addressTexel i n.nu (n.tspWord.getLsbD 16) (n.tspWord.getLsbD 18)
    let av := fun (i : Int) => addressTexel i n.nv (n.tspWord.getLsbD 15) (n.tspWord.getLsbD 17)
    let fu := n.u * n.nu - 1 / 2
    let fv := n.v * n.nv - 1 / 2
    let wu := ⌊(fu - ⌊fu⌋) * 256⌋.toNat
    let wv := ⌊(fv - ⌊fv⌋) * 256⌋.toNat
    let s00 := fetchTexel (au ⌊fu⌋) (av ⌊fv⌋) s
    let s10 := fetchTexel (au (⌊fu⌋ + 1)) (av ⌊fv⌋) s00
    let s01 := fetchTexel (au ⌊fu⌋) (av (⌊fv⌋ + 1)) s10
    let s11 := fetchTexel (au (⌊fu⌋ + 1)) (av (⌊fv⌋ + 1)) s01
    let point := fetchTexel (au ⌊n.u * n.nu⌋) (av ⌊n.v * n.nv⌋) s
    let mix := fun (c : Color → Byte) =>
      bilinearChannel (c s00.tsp.texel) (c s10.tsp.texel) (c s01.tsp.texel) (c s11.tsp.texel) wu wv
    let mixed := .next { s11 with tsp := { s11.tsp with
      tex := ⟨mix Color.r, mix Color.g, mix Color.b, mix Color.a⟩ } }
    exec .filterPoint s = .next { point with tsp := { point.tsp with tex := point.tsp.texel } } ∧
    exec .filterBilinear1 s = mixed ∧ exec .filterBilinear2 s = mixed ∧ exec .filterBilinear3 s = mixed ∧
    wu ≤ 255 ∧ wv ≤ 255 ∧ ShadeFrame s point ∧ ShadeFrame s s11 ∧
    ∀ (fmt : Instr) (iu iv : Nat), decode .pixelFmt n.tcw = .ok fmt → n.tcw.extractLsb' 27 3 ≠ 7#3 →
      exec fmt { s with tsp := { n with iu := iu, iv := iv } } = .next (fetchTexel iu iv s)

/-- R411, R414 (decisions D22, D23; that MIP_LEVEL is taken no higher than the last level is log 9): TCW_TWIDDLED and
TCW_STRIDE_SCAN give the texel index, TCW_MIPMAPPED the level: some level up to the last, or level 0 of a stride-scan
texture. The index a texel is read at is the one the ScanOrder code of the texture word gives, and TCW_TWIDDLED's for a
palette format, whatever its bit 26. -/
def Obligations.TexelIndexCodes : Prop :=
  ∀ s : State,
    let n := s.tsp
    let usize := 8 * 2 ^ (n.tspWord.extractLsb' 3 3).toNat
    let vsize := 8 * 2 ^ (n.tspWord.extractLsb' 0 3).toNat
    let fmt := (n.tcw.extractLsb' 27 3).toNat
    let twiddled := n.tcw.getLsbD 26 = false ∨ fmt = 5 ∨ fmt = 6
    exec .tcwTwiddled s = .next { s with tsp := { n with
      index := detwiddle 0 (Nat.log2 n.nv) n.iu + detwiddle 1 (Nat.log2 n.nu) n.iv } } ∧
    exec (.tcwStrideScan false) s = .next { s with tsp := { n with index := n.iv * usize + n.iu } } ∧
    exec (.tcwStrideScan true) s = .next { s with tsp := { n with
      index := n.iv * (((reg s .textControl).extractLsb' 0 5).toNat * 32) + n.iu } } ∧
    (twiddled → ∃ d, d ≤ (n.tspWord.extractLsb' 3 3).toNat + 3 ∧
      exec .tcwMipmapped s = .next { s with tsp := { n with level := d, nu := usize / 2 ^ d, nv := usize / 2 ^ d } }) ∧
    (¬ twiddled → exec .tcwMipmapped s = .next { s with tsp := { n with level := 0, nu := usize, nv := vsize } }) ∧
    (fmt = 5 ∨ fmt = 6 → exec .tcwTwiddled s = .next (scanTexel s)) ∧
    (fmt ≠ 5 → fmt ≠ 6 → ∀ scan, decode .scanOrder n.tcw = .ok scan → exec scan s = .next (scanTexel s))

/-- R704 and R706 (marked derived; the code of the tables is the spec's decision D40): the two table terms of a
texture of sizes `2^bu` and `2^bv` add up to the interleaved index and share no bit. While both sizes last an even bit
of the index is the next V bit and an odd bit the next U bit; the remaining bits of the longer coordinate follow in
order. -/
def Obligations.TwiddleTables : Prop :=
  ∀ bu bv i j : Nat, bu ≤ 10 → bv ≤ 10 → i < 2 ^ bu → j < 2 ^ bv →
    detwiddle 0 bv i + detwiddle 1 bu j = twiddleSlow i j (2 ^ bu) (2 ^ bv) ∧
    detwiddle 0 bv i &&& detwiddle 1 bu j = 0 ∧
    ∀ k, (detwiddle 0 bv i + detwiddle 1 bu j).testBit k =
      if k < 2 * min bu bv then (if k % 2 = 0 then j.testBit (k / 2) else i.testBit (k / 2))
      else (if bu < bv then j.testBit (k - min bu bv) else i.testBit (k - min bu bv))

/-- R98, R416, R420 to R423, R427 (field positions and offsets are the spec's decisions D23 and D5; that a mipmapped
stride-scan texture has the offset too is log 18; the report of each of the two bytes is R98, log 24; the bump colour is
the open parameter, log 11): the four one-read 16-bit formats read the texel at the addressed index, report the two
bytes' addresses, and decode it. -/
def Obligations.TexelFormats : Prop :=
  ∀ (s : State) (addr : Nat),
    let x := scanTexel s
    let k := (s.tsp.tspWord.extractLsb' 3 3).toNat + 3 - s.tsp.level
    let a := addr * 8 + 2 * ((if s.tsp.tcw.getLsbD 31 then 3 + (4 ^ k - 1) / 3 else 0) + x.tsp.index)
    let t : Half := Memory.read s.vram ((a + 1) % 0x800000) ++ Memory.read s.vram (a % 0x800000)
    let gives := fun (i : Instr) (c : Color) => exec i s = .next
      { touch (a + 1) (touch a x) with tsp := { x.tsp with texel := c } }
    let five := fun (lo : Nat) => t.extractLsb' lo 5 ++ 0#3
    let nibble := fun (lo : Nat) => t.extractLsb' lo 4 ++ t.extractLsb' lo 4
    gives (.fmtArgb1555 addr) ⟨five 10, five 5, five 0, if t.getLsbD 15 then 0xFF else 0⟩ ∧
    gives (.fmtRgb565 addr) ⟨five 11, t.extractLsb' 5 6 ++ 0#2, five 0, 0xFF⟩ ∧
    gives (.fmtArgb4444 addr) ⟨nibble 8, nibble 4, nibble 0, nibble 12⟩ ∧
    (∃ c, gives (.fmtBump addr) c) ∧ ShadeFrame s (touch (a + 1) (touch a x))

/-- R98, R414, R416, R424 to R426 (decisions D24, D25; the offset of a palette mipmap is the open parameter, log 10, of
no mipmap it is 0; that a mipmapped stride-scan texture has an offset too is log 18, the reports log 24): YUV422 reads
the even and then the odd texel of the pair and reports their four bytes' addresses; the palette formats, always
twiddled, read and report one byte, form the index, read the entry and decode it by `PAL_RAM_CTRL`; the four PAL codes
decode the entry the TSP holds. Nothing else changes. -/
def Obligations.YuvAndPaletteTexels : Prop :=
  ∀ (s : State) (sel addr : Nat),
    let n := s.tsp
    let w := n.palEntry
    let h : Half := w.extractLsb' 0 16
    let argb := fun (e : Word) => Color.mk (e.extractLsb' 16 8) (e.extractLsb' 8 8) (e.extractLsb' 0 8) (e.extractLsb' 24 8)
    let five := fun (x : Half) (lo : Nat) => x.extractLsb' lo 5 ++ 0#3
    let nibble := fun (x : Half) (lo : Nat) => x.extractLsb' lo 4 ++ x.extractLsb' lo 4
    let argb1555 := fun (x : Half) => Color.mk (five x 10) (five x 5) (five x 0) (if x.getLsbD 15 then 0xFF else 0)
    let rgb565 := fun (x : Half) => Color.mk (five x 11) (x.extractLsb' 5 6 ++ 0#2) (five x 0) 0xFF
    let argb4444 := fun (x : Half) => Color.mk (nibble x 8) (nibble x 4) (nibble x 0) (nibble x 12)
    let pal := fun (i : Instr) (c : Color) => exec i s = .next { s with tsp := { n with texel := c } }
    let clip := fun (x : Int) => BitVec.ofNat 8 (min (max x 0) 255).toNat
    let side := (n.tspWord.extractLsb' 3 3).toNat + 3 - n.level
    let fmt := (n.tcw.extractLsb' 27 3).toNat
    let twiddled := fun (iu : Nat) => detwiddle 0 (Nat.log2 n.nv) iu + detwiddle 1 (Nat.log2 n.nu) n.iv
    let index := fun (iu : Nat) =>
      if n.tcw.getLsbD 26 = false ∨ fmt = 5 ∨ fmt = 6 then twiddled iu
      else n.iv * (if n.tcw.getLsbD 25 then ((reg s .textControl).extractLsb' 0 5).toNat * 32
        else 8 * 2 ^ (n.tspWord.extractLsb' 3 3).toNat) + iu
    let byte := fun (a : Nat) => Memory.read s.vram (a % 0x800000)
    let reports := fun (l : List Nat) => l.flatMap fun a =>
      if 0x800000 ≤ a then [FrameError.addressOutOfRange a] else []
    let entry := fun (e : Word) => match ((reg s .palRamCtrl).extractLsb' 0 2).toNat with
      | 0 => argb1555 (e.extractLsb' 0 16)
      | 1 => rgb565 (e.extractLsb' 0 16)
      | 2 => argb4444 (e.extractLsb' 0 16)
      | _ => argb e
    let palette := fun (i : Instr) (a k : Nat) => exec i s = .next { s with
      errors := s.errors ++ reports [a]
      tsp := { n with
        index := twiddled n.iu, palEntry := reg s (.paletteRam k), texel := entry (reg s (.paletteRam k)) } }
    let offset := fun (nbits : Nat) => if n.tcw.getLsbD 31 then Config.palMipOffset nbits side else 0
    let a4 := addr * 8 + offset 4 + twiddled n.iu / 2
    let a8 := addr * 8 + offset 8 + twiddled n.iu
    let ae := addr * 8 + 2 * ((if n.tcw.getLsbD 31 then 3 + (4 ^ side - 1) / 3 else 0) + index (n.iu / 2 * 2))
    let ao := addr * 8 + 2 * ((if n.tcw.getLsbD 31 then 3 + (4 ^ side - 1) / 3 else 0) + index (n.iu / 2 * 2 + 1))
    let y : Int := if n.iu % 2 = 0 then (byte (ae + 1)).toNat else (byte (ao + 1)).toNat
    let yu : Int := (byte ae).toNat - 128
    let yv : Int := (byte ao).toNat - 128
    pal .palArgb1555 (argb1555 h) ∧ pal .palRgb565 (rgb565 h) ∧ pal .palArgb4444 (argb4444 h) ∧
    pal .palArgb8888 (argb w) ∧
    palette (.fmtPal4 sel addr) a4
      (16 * sel + if twiddled n.iu % 2 = 0 then (byte a4).toNat % 16 else (byte a4).toNat / 16) ∧
    palette (.fmtPal8 sel addr) a8 (256 * (sel / 16) + (byte a8).toNat) ∧
    exec (.fmtYuv422 addr) s = .next { s with
      errors := s.errors ++ reports [ae, ae + 1, ao, ao + 1]
      tsp := { n with
        index := index (n.iu / 2 * 2 + 1)
        texel := ⟨clip (y + (yv * 11).tdiv 8), clip (y - (yu * 11 + yv * 22).tdiv 32),
          clip (y + (yu * 110).tdiv 64), 0xFF⟩ } }

/-- R400, R456 (the representation of a Z-hole is the spec's decision D30): a tag pass leaves a pixel of background tag
or already written; any other it shades, and where the shader gives a next state it either makes the pixel a Z-hole or
blends the colour and marks the pixel written. No other pixel changes. A tag pass does this at every pixel of the tile,
once each (row by row, log 17). -/
def Obligations.TagPassPixel : Prop :=
  (∀ (m : RenderMode) (s : State), renderParamTags m s = forEach (renderTag m) (List.finRange 1024) s) ∧
  ∀ (m : RenderMode) (i : Fin 1024) (s : State),
    let px := pixel s i
    let background := px.tag = reg s .ispBackgndT &&& 0x1FFFFFFF ∨ px.tag = 0xFFFFFFFF
    (background ∨ px.status.getLsbD 0 = true → renderTag m i s = .next s) ∧
    (¬ background → px.status.getLsbD 0 = false → ∀ u,
      shade (resolve px.tag s).1 i (resolve px.tag s).2 = .next u →
      ∃ t, renderTag m i s = .next t ∧ DrawFrame s t ∧ OtherPixels i s t ∧
        pixel t i =
          if m = .punchthroughPass0 ∧ u.tsp.c.a.toNat < ((reg s .ptAlphaRef).extractLsb' 0 8).toNat then
            { px with tag := reg s .ispBackgndT &&& 0x1FFFFFFF, status := (px.status &&& 0xFE) ||| 0x02 }
          else { px with accum := (pixel (blendPixel u) i).accum, status := px.status ||| 0x01 })

/-- R355, R402, R403 (the selector is the spec's decision D19, the meaning of `inside` D18): a pixel is inside the
modifier volume where stencil bit 1 is set and bit 2 is set or there was no AND fold; of a two-volume primitive both
sets are shaded, and the pixel takes the colour and the TSP word of the second set exactly where it is inside; of any
other the first set alone is shaded. Shading inline blends that colour at once. -/
def Obligations.TwoVolumeSelection : Prop :=
  (∀ (p : DrawParameters) (i : Fin 1024) (s : State),
    (inside s i = true ↔
      (pixel s i).stencil.getLsbD 1 = true ∧ ((pixel s i).stencil.getLsbD 2 = true ∨ s.andPhase = false)) ∧
    (p.hdr.twoVolume = false → shade p i s = shadeSet p false { s with pix := i }) ∧
    shadeInline p i s = andThen (shade p i s) fun t => .next (blendPixel t)) ∧
  ∀ (p : DrawParameters) (i : Fin 1024) (s a b : State), p.hdr.twoVolume = true →
    shadeSet p false { s with pix := i } = .next a → shadeSet p true a = .next b →
    ∃ t, shade p i s = .next t ∧
      t.tsp.c = (if inside s i then b.tsp.c else a.tsp.c) ∧
      t.tsp.tspWord = (if inside s i then p.hdr.tsp2 else p.hdr.tsp) ∧
      ShadeFrame { s with pix := i } t

/-! ### Pack modes and writeback -/

/-- R601 (decision D32) and log 23: at the configuration check the six unsupported pack codes abort the frame, the two
supported ones let it go on; an unsupported code aborts wherever it is executed. Nothing else changes. The driver's
positions (`ctl`) are the model's own, log 1. -/
def Obligations.PackCodesInFrame : Prop :=
  ∀ s : State,
    let aborts := fun (i : Instr) => exec i s = .next { s with
      result := some (.aborted (.configurationUnsupported .fbPackmode) s.errors), ctl := .idle }
    aborts .pack0Unsupported ∧ aborts .pack2Unsupported ∧ aborts .pack3Unsupported ∧ aborts .pack4Unsupported ∧
    aborts .pack5Unsupported ∧ aborts .pack7Unsupported ∧
    (s.ctl = .checkPack → exec .pack1Rgb565 s = .next { s with ctl := .checkScaler } ∧
      exec .pack6Argb8888 s = .next { s with ctl := .checkScaler })

/-- R500, R505, R510, R511 (the order of the writes is the spec's decision D31): at the writeback PACK_6 stores every
pixel's word and PACK_1 every pixel's half at the pixel's address; where addresses coincide the later pixel's bytes
remain; every byte outside the stored ones is unchanged, and so is all state but VRAM, the reports, one for each
address at or above 0x800000 in the order of the writes, and the driver's position. The driver's positions (`ctl`) are
the model's own, log 1. -/
def Obligations.WritebackStoresTile : Prop :=
  ∀ s : State, Memory.wf s.vram = true → s.ctl = .writeback →
    let sof := ((reg s .fbWSof1).extractLsb' 2 23).toNat * 4
    let stride := ((reg s .fbWLinestride).extractLsb' 0 9).toNat * 8
    let addr := fun (bpp : Nat) (i : Fin 1024) =>
      sof + (32 * s.tilex + i.val % 32) * bpp + (32 * s.tiley + i.val / 32) * stride
    let phys := fun (bpp : Nat) (i : Fin 1024) => pvrMap32 (addr bpp i % 0x800000)
    let reports := fun (bpp : Nat) => (List.finRange 1024).flatMap fun i =>
      if 0x800000 ≤ addr bpp i then [FrameError.addressOutOfRange (addr bpp i)] else []
    (∃ t, exec .pack6Argb8888 s = .next t ∧
      t = { s with vram := t.vram, errors := s.errors ++ reports 4, ctl := .entryEnd } ∧
      (∀ i, (∀ j, i < j → phys 4 j ≠ phys 4 i) → word32 t.vram (addr 4 i) = pack8888 (pixel s i).accum) ∧
      ∀ q, (∀ i, q < phys 4 i ∨ phys 4 i + 4 ≤ q) → Memory.read t.vram q = Memory.read s.vram q) ∧
    (∃ t, exec .pack1Rgb565 s = .next t ∧
      t = { s with vram := t.vram, errors := s.errors ++ reports 2, ctl := .entryEnd } ∧
      (∀ i, (∀ j, i < j → phys 2 j ≠ phys 2 i) →
        Memory.read t.vram (phys 2 i + 1) ++ Memory.read t.vram (phys 2 i) =
          pack565 (pixel s i).accum (32 * s.tilex + i.val % 32) (32 * s.tiley + i.val / 32)) ∧
      ∀ q, (∀ i, q < phys 2 i ∨ phys 2 i + 2 ≤ q) → Memory.read t.vram q = Memory.read s.vram q)

/-- R502, R503, R504 (marked derived): the packed 565 pixel is blue above green above red, each component dithered by
the matrix entry of the pixel's position; no component leaves its field. -/
def Obligations.DitheredPackFits : Prop :=
  ∀ (c : Color) (x y : Nat),
    let rows : List (List Nat) := [[8, 136, 40, 168], [200, 72, 232, 104], [56, 184, 24, 152], [248, 120, 216, 88]]
    let t := (rows.getD (y % 4) []).getD (x % 4) 0
    let r5 := (c.r.toNat * 31 + t) / 255
    let g6 := (c.g.toNat * 63 + t) / 255
    let b5 := (c.b.toNat * 31 + t) / 255
    r5 ≤ 31 ∧ g6 ≤ 63 ∧ b5 ≤ 31 ∧
      pack565 c x y = BitVec.ofNat 5 b5 ++ BitVec.ofNat 6 g6 ++ BitVec.ofNat 5 r5
end

