-- ==== Sys2Proof/Laws/Outcome.lean ====
section
/-! SUPPORT. What a sequence of operations can do: one lemma for `andThen`, one for `forEach` reaching a next state,
one for `forEach` completing. -/

namespace Sys2Proof.Machine

@[simp] theorem andThen_next (s : State) (f : State → Res) : andThen (.next s) f = f s := rfl
@[simp] theorem andThen_fault (r : Fault) (f : State → Res) : andThen (.fault r) f = .fault r := rfl
@[simp] theorem andThen_refused (r : Refusal) (f : State → Res) : andThen (.refused r) f = .refused r := rfl

/-- A sequence reaches a next state only through the next state of its first part. -/
theorem andThen_eq_next {o : Res} {f : State → Res} {t : State} :
    andThen o f = .next t ↔ ∃ s, o = .next s ∧ f s = .next t := by
  cases o <;> simp

/-- A sequence faults in its first part or in its second. -/
theorem andThen_eq_fault {o : Res} {f : State → Res} {r : Fault} :
    andThen o f = .fault r ↔ o = .fault r ∨ ∃ s, o = .next s ∧ f s = .fault r := by
  cases o <;> simp

@[simp] theorem forEach_nil {α : Type} (f : α → State → Res) (s : State) : forEach f [] s = .next s := rfl
@[simp] theorem forEach_cons {α : Type} (f : α → State → Res) (a : α) (as : List α) (s : State) :
    forEach f (a :: as) s = andThen (f a s) (forEach f as) := rfl

/-- A reflexive and transitive relation each item's operation keeps is kept by all of them in order. -/
theorem forEach_rel {α : Type} {f : α → State → Res} (R : State → State → Prop) (hr : ∀ s, R s s)
    (ht : ∀ s t u, R s t → R t u → R s u) (hf : ∀ a s t, f a s = .next t → R s t) :
    ∀ (l : List α) {s t : State}, forEach f l s = .next t → R s t := by
  intro l
  induction l with
  | nil => intro s t h; cases h; exact hr s
  | cons a as ih =>
    intro s t h
    obtain ⟨u, hu, h⟩ := andThen_eq_next.1 h
    exact ht _ _ _ (hf _ _ _ hu) (ih h)

/-- Operations that complete from every state of an invariant, and keep it, complete one after the other. -/
theorem forEach_completes {α : Type} {f : α → State → Res} (P : State → Prop)
    (hf : ∀ a s, P s → ∃ t, f a s = .next t ∧ P t) :
    ∀ (l : List α) {s : State}, P s → ∃ t, forEach f l s = .next t ∧ P t := by
  intro l
  induction l with
  | nil => intro s h; exact ⟨s, rfl, h⟩
  | cons a as ih =>
    intro s h
    obtain ⟨u, hu, hp⟩ := hf a s h
    obtain ⟨t, ht, hq⟩ := ih hp
    exact ⟨t, by simp [hu, ht], hq⟩

/-- Operations that never fault do not fault one after the other. -/
theorem forEach_not_fault {α : Type} {f : α → State → Res} (hf : ∀ a s r, f a s ≠ .fault r) :
    ∀ (l : List α) (s : State) (r : Fault), forEach f l s ≠ .fault r := by
  intro l
  induction l with
  | nil => intro s r h; cases h
  | cons a as ih =>
    intro s r h
    rcases andThen_eq_fault.1 h with h | ⟨u, _, h⟩
    · exact hf _ _ _ h
    · exact ih _ _ h

end Sys2Proof.Machine
end

