-- ==== Sys2Proof/Laws/State.lean ====
section
/-! SUPPORT. One lemma per field per named update of the state. -/

namespace Sys2Proof.Machine

/-! `report` appends one error and changes nothing else (R603). -/

@[simp] theorem report_vram (e : FrameError) (s : State) : (report e s).vram = s.vram := rfl
@[simp] theorem report_regs (e : FrameError) (s : State) : (report e s).regs = s.regs := rfl
@[simp] theorem report_tile (e : FrameError) (s : State) : (report e s).tile = s.tile := rfl
@[simp] theorem report_andPhase (e : FrameError) (s : State) : (report e s).andPhase = s.andPhase := rfl
@[simp] theorem report_moreToDraw (e : FrameError) (s : State) : (report e s).moreToDraw = s.moreToDraw := rfl
@[simp] theorem report_regionPtr (e : FrameError) (s : State) : (report e s).regionPtr = s.regionPtr := rfl
@[simp] theorem report_listPtr (e : FrameError) (s : State) : (report e s).listPtr = s.listPtr := rfl
@[simp] theorem report_mode (e : FrameError) (s : State) : (report e s).mode = s.mode := rfl
@[simp] theorem report_tilex (e : FrameError) (s : State) : (report e s).tilex = s.tilex := rfl
@[simp] theorem report_tiley (e : FrameError) (s : State) : (report e s).tiley = s.tiley := rfl
@[simp] theorem report_errors (e : FrameError) (s : State) : (report e s).errors = s.errors ++ [e] := rfl
@[simp] theorem report_result (e : FrameError) (s : State) : (report e s).result = s.result := rfl
@[simp] theorem report_entry (e : FrameError) (s : State) : (report e s).entry = s.entry := rfl
@[simp] theorem report_entryCount (e : FrameError) (s : State) : (report e s).entryCount = s.entryCount := rfl
@[simp] theorem report_ptIteration (e : FrameError) (s : State) : (report e s).ptIteration = s.ptIteration := rfl
@[simp] theorem report_fpuCache (e : FrameError) (s : State) : (report e s).fpuCache = s.fpuCache := rfl
@[simp] theorem report_ctl (e : FrameError) (s : State) : (report e s).ctl = s.ctl := rfl
@[simp] theorem report_resume (e : FrameError) (s : State) : (report e s).resume = s.resume := rfl
@[simp] theorem report_ptrIndex (e : FrameError) (s : State) : (report e s).ptrIndex = s.ptrIndex := rfl
@[simp] theorem report_pix (e : FrameError) (s : State) : (report e s).pix = s.pix := rfl
@[simp] theorem report_isp (e : FrameError) (s : State) : (report e s).isp = s.isp := rfl
@[simp] theorem report_tsp (e : FrameError) (s : State) : (report e s).tsp = s.tsp := rfl
@[simp] theorem report_depthClearMode (e : FrameError) (s : State) : (report e s).depthClearMode = s.depthClearMode := rfl
@[simp] theorem report_freeDraws (e : FrameError) (s : State) : (report e s).freeDraws = s.freeDraws := rfl

/-! `abortFrame` sets the result and ends the frame (R602). -/

@[simp] theorem abortFrame_vram (f : ConfigField) (s : State) : (abortFrame f s).vram = s.vram := rfl
@[simp] theorem abortFrame_regs (f : ConfigField) (s : State) : (abortFrame f s).regs = s.regs := rfl
@[simp] theorem abortFrame_tile (f : ConfigField) (s : State) : (abortFrame f s).tile = s.tile := rfl
@[simp] theorem abortFrame_andPhase (f : ConfigField) (s : State) : (abortFrame f s).andPhase = s.andPhase := rfl
@[simp] theorem abortFrame_moreToDraw (f : ConfigField) (s : State) : (abortFrame f s).moreToDraw = s.moreToDraw := rfl
@[simp] theorem abortFrame_regionPtr (f : ConfigField) (s : State) : (abortFrame f s).regionPtr = s.regionPtr := rfl
@[simp] theorem abortFrame_listPtr (f : ConfigField) (s : State) : (abortFrame f s).listPtr = s.listPtr := rfl
@[simp] theorem abortFrame_mode (f : ConfigField) (s : State) : (abortFrame f s).mode = s.mode := rfl
@[simp] theorem abortFrame_tilex (f : ConfigField) (s : State) : (abortFrame f s).tilex = s.tilex := rfl
@[simp] theorem abortFrame_tiley (f : ConfigField) (s : State) : (abortFrame f s).tiley = s.tiley := rfl
@[simp] theorem abortFrame_errors (f : ConfigField) (s : State) : (abortFrame f s).errors = s.errors := rfl
@[simp] theorem abortFrame_result (f : ConfigField) (s : State) : (abortFrame f s).result = some (.aborted (.configurationUnsupported f) s.errors) := rfl
@[simp] theorem abortFrame_entry (f : ConfigField) (s : State) : (abortFrame f s).entry = s.entry := rfl
@[simp] theorem abortFrame_entryCount (f : ConfigField) (s : State) : (abortFrame f s).entryCount = s.entryCount := rfl
@[simp] theorem abortFrame_ptIteration (f : ConfigField) (s : State) : (abortFrame f s).ptIteration = s.ptIteration := rfl
@[simp] theorem abortFrame_fpuCache (f : ConfigField) (s : State) : (abortFrame f s).fpuCache = s.fpuCache := rfl
@[simp] theorem abortFrame_ctl (f : ConfigField) (s : State) : (abortFrame f s).ctl = .idle := rfl
@[simp] theorem abortFrame_resume (f : ConfigField) (s : State) : (abortFrame f s).resume = s.resume := rfl
@[simp] theorem abortFrame_ptrIndex (f : ConfigField) (s : State) : (abortFrame f s).ptrIndex = s.ptrIndex := rfl
@[simp] theorem abortFrame_pix (f : ConfigField) (s : State) : (abortFrame f s).pix = s.pix := rfl
@[simp] theorem abortFrame_isp (f : ConfigField) (s : State) : (abortFrame f s).isp = s.isp := rfl
@[simp] theorem abortFrame_tsp (f : ConfigField) (s : State) : (abortFrame f s).tsp = s.tsp := rfl
@[simp] theorem abortFrame_depthClearMode (f : ConfigField) (s : State) : (abortFrame f s).depthClearMode = s.depthClearMode := rfl
@[simp] theorem abortFrame_freeDraws (f : ConfigField) (s : State) : (abortFrame f s).freeDraws = s.freeDraws := rfl

/-! `finishFrame` sets the result and ends the frame (R610). -/

@[simp] theorem finishFrame_vram (s : State) : (finishFrame s).vram = s.vram := rfl
@[simp] theorem finishFrame_regs (s : State) : (finishFrame s).regs = s.regs := rfl
@[simp] theorem finishFrame_tile (s : State) : (finishFrame s).tile = s.tile := rfl
@[simp] theorem finishFrame_andPhase (s : State) : (finishFrame s).andPhase = s.andPhase := rfl
@[simp] theorem finishFrame_moreToDraw (s : State) : (finishFrame s).moreToDraw = s.moreToDraw := rfl
@[simp] theorem finishFrame_regionPtr (s : State) : (finishFrame s).regionPtr = s.regionPtr := rfl
@[simp] theorem finishFrame_listPtr (s : State) : (finishFrame s).listPtr = s.listPtr := rfl
@[simp] theorem finishFrame_mode (s : State) : (finishFrame s).mode = s.mode := rfl
@[simp] theorem finishFrame_tilex (s : State) : (finishFrame s).tilex = s.tilex := rfl
@[simp] theorem finishFrame_tiley (s : State) : (finishFrame s).tiley = s.tiley := rfl
@[simp] theorem finishFrame_errors (s : State) : (finishFrame s).errors = s.errors := rfl
@[simp] theorem finishFrame_result (s : State) : (finishFrame s).result = some (.ok s.errors) := rfl
@[simp] theorem finishFrame_entry (s : State) : (finishFrame s).entry = s.entry := rfl
@[simp] theorem finishFrame_entryCount (s : State) : (finishFrame s).entryCount = s.entryCount := rfl
@[simp] theorem finishFrame_ptIteration (s : State) : (finishFrame s).ptIteration = s.ptIteration := rfl
@[simp] theorem finishFrame_fpuCache (s : State) : (finishFrame s).fpuCache = s.fpuCache := rfl
@[simp] theorem finishFrame_ctl (s : State) : (finishFrame s).ctl = .idle := rfl
@[simp] theorem finishFrame_resume (s : State) : (finishFrame s).resume = s.resume := rfl
@[simp] theorem finishFrame_ptrIndex (s : State) : (finishFrame s).ptrIndex = s.ptrIndex := rfl
@[simp] theorem finishFrame_pix (s : State) : (finishFrame s).pix = s.pix := rfl
@[simp] theorem finishFrame_isp (s : State) : (finishFrame s).isp = s.isp := rfl
@[simp] theorem finishFrame_tsp (s : State) : (finishFrame s).tsp = s.tsp := rfl
@[simp] theorem finishFrame_depthClearMode (s : State) : (finishFrame s).depthClearMode = s.depthClearMode := rfl
@[simp] theorem finishFrame_freeDraws (s : State) : (finishFrame s).freeDraws = s.freeDraws := rfl

/-! `updatePixel` changes the tile buffers only. -/

@[simp] theorem updatePixel_vram (i : Fin 1024) (f : Pixel → Pixel) (s : State) : (updatePixel i f s).vram = s.vram := rfl
@[simp] theorem updatePixel_regs (i : Fin 1024) (f : Pixel → Pixel) (s : State) : (updatePixel i f s).regs = s.regs := rfl
@[simp] theorem updatePixel_tile (i : Fin 1024) (f : Pixel → Pixel) (s : State) : (updatePixel i f s).tile = s.tile.set i.val (f (pixel s i)) := rfl
@[simp] theorem updatePixel_andPhase (i : Fin 1024) (f : Pixel → Pixel) (s : State) : (updatePixel i f s).andPhase = s.andPhase := rfl
@[simp] theorem updatePixel_moreToDraw (i : Fin 1024) (f : Pixel → Pixel) (s : State) : (updatePixel i f s).moreToDraw = s.moreToDraw := rfl
@[simp] theorem updatePixel_regionPtr (i : Fin 1024) (f : Pixel → Pixel) (s : State) : (updatePixel i f s).regionPtr = s.regionPtr := rfl
@[simp] theorem updatePixel_listPtr (i : Fin 1024) (f : Pixel → Pixel) (s : State) : (updatePixel i f s).listPtr = s.listPtr := rfl
@[simp] theorem updatePixel_mode (i : Fin 1024) (f : Pixel → Pixel) (s : State) : (updatePixel i f s).mode = s.mode := rfl
@[simp] theorem updatePixel_tilex (i : Fin 1024) (f : Pixel → Pixel) (s : State) : (updatePixel i f s).tilex = s.tilex := rfl
@[simp] theorem updatePixel_tiley (i : Fin 1024) (f : Pixel → Pixel) (s : State) : (updatePixel i f s).tiley = s.tiley := rfl
@[simp] theorem updatePixel_errors (i : Fin 1024) (f : Pixel → Pixel) (s : State) : (updatePixel i f s).errors = s.errors := rfl
@[simp] theorem updatePixel_result (i : Fin 1024) (f : Pixel → Pixel) (s : State) : (updatePixel i f s).result = s.result := rfl
@[simp] theorem updatePixel_entry (i : Fin 1024) (f : Pixel → Pixel) (s : State) : (updatePixel i f s).entry = s.entry := rfl
@[simp] theorem updatePixel_entryCount (i : Fin 1024) (f : Pixel → Pixel) (s : State) : (updatePixel i f s).entryCount = s.entryCount := rfl
@[simp] theorem updatePixel_ptIteration (i : Fin 1024) (f : Pixel → Pixel) (s : State) : (updatePixel i f s).ptIteration = s.ptIteration := rfl
@[simp] theorem updatePixel_fpuCache (i : Fin 1024) (f : Pixel → Pixel) (s : State) : (updatePixel i f s).fpuCache = s.fpuCache := rfl
@[simp] theorem updatePixel_ctl (i : Fin 1024) (f : Pixel → Pixel) (s : State) : (updatePixel i f s).ctl = s.ctl := rfl
@[simp] theorem updatePixel_resume (i : Fin 1024) (f : Pixel → Pixel) (s : State) : (updatePixel i f s).resume = s.resume := rfl
@[simp] theorem updatePixel_ptrIndex (i : Fin 1024) (f : Pixel → Pixel) (s : State) : (updatePixel i f s).ptrIndex = s.ptrIndex := rfl
@[simp] theorem updatePixel_pix (i : Fin 1024) (f : Pixel → Pixel) (s : State) : (updatePixel i f s).pix = s.pix := rfl
@[simp] theorem updatePixel_isp (i : Fin 1024) (f : Pixel → Pixel) (s : State) : (updatePixel i f s).isp = s.isp := rfl
@[simp] theorem updatePixel_tsp (i : Fin 1024) (f : Pixel → Pixel) (s : State) : (updatePixel i f s).tsp = s.tsp := rfl
@[simp] theorem updatePixel_depthClearMode (i : Fin 1024) (f : Pixel → Pixel) (s : State) : (updatePixel i f s).depthClearMode = s.depthClearMode := rfl
@[simp] theorem updatePixel_freeDraws (i : Fin 1024) (f : Pixel → Pixel) (s : State) : (updatePixel i f s).freeDraws = s.freeDraws := rfl

/-! `mapTile` changes the tile buffers only. -/

@[simp] theorem mapTile_vram (f : Pixel → Pixel) (s : State) : (mapTile f s).vram = s.vram := rfl
@[simp] theorem mapTile_regs (f : Pixel → Pixel) (s : State) : (mapTile f s).regs = s.regs := rfl
@[simp] theorem mapTile_tile (f : Pixel → Pixel) (s : State) : (mapTile f s).tile = s.tile.map f := rfl
@[simp] theorem mapTile_andPhase (f : Pixel → Pixel) (s : State) : (mapTile f s).andPhase = s.andPhase := rfl
@[simp] theorem mapTile_moreToDraw (f : Pixel → Pixel) (s : State) : (mapTile f s).moreToDraw = s.moreToDraw := rfl
@[simp] theorem mapTile_regionPtr (f : Pixel → Pixel) (s : State) : (mapTile f s).regionPtr = s.regionPtr := rfl
@[simp] theorem mapTile_listPtr (f : Pixel → Pixel) (s : State) : (mapTile f s).listPtr = s.listPtr := rfl
@[simp] theorem mapTile_mode (f : Pixel → Pixel) (s : State) : (mapTile f s).mode = s.mode := rfl
@[simp] theorem mapTile_tilex (f : Pixel → Pixel) (s : State) : (mapTile f s).tilex = s.tilex := rfl
@[simp] theorem mapTile_tiley (f : Pixel → Pixel) (s : State) : (mapTile f s).tiley = s.tiley := rfl
@[simp] theorem mapTile_errors (f : Pixel → Pixel) (s : State) : (mapTile f s).errors = s.errors := rfl
@[simp] theorem mapTile_result (f : Pixel → Pixel) (s : State) : (mapTile f s).result = s.result := rfl
@[simp] theorem mapTile_entry (f : Pixel → Pixel) (s : State) : (mapTile f s).entry = s.entry := rfl
@[simp] theorem mapTile_entryCount (f : Pixel → Pixel) (s : State) : (mapTile f s).entryCount = s.entryCount := rfl
@[simp] theorem mapTile_ptIteration (f : Pixel → Pixel) (s : State) : (mapTile f s).ptIteration = s.ptIteration := rfl
@[simp] theorem mapTile_fpuCache (f : Pixel → Pixel) (s : State) : (mapTile f s).fpuCache = s.fpuCache := rfl
@[simp] theorem mapTile_ctl (f : Pixel → Pixel) (s : State) : (mapTile f s).ctl = s.ctl := rfl
@[simp] theorem mapTile_resume (f : Pixel → Pixel) (s : State) : (mapTile f s).resume = s.resume := rfl
@[simp] theorem mapTile_ptrIndex (f : Pixel → Pixel) (s : State) : (mapTile f s).ptrIndex = s.ptrIndex := rfl
@[simp] theorem mapTile_pix (f : Pixel → Pixel) (s : State) : (mapTile f s).pix = s.pix := rfl
@[simp] theorem mapTile_isp (f : Pixel → Pixel) (s : State) : (mapTile f s).isp = s.isp := rfl
@[simp] theorem mapTile_tsp (f : Pixel → Pixel) (s : State) : (mapTile f s).tsp = s.tsp := rfl
@[simp] theorem mapTile_depthClearMode (f : Pixel → Pixel) (s : State) : (mapTile f s).depthClearMode = s.depthClearMode := rfl
@[simp] theorem mapTile_freeDraws (f : Pixel → Pixel) (s : State) : (mapTile f s).freeDraws = s.freeDraws := rfl

/-! `setTsp` changes the TSP's registers only. -/

@[simp] theorem setTsp_vram (f : TspUnit → TspUnit) (s : State) : (setTsp f s).vram = s.vram := rfl
@[simp] theorem setTsp_regs (f : TspUnit → TspUnit) (s : State) : (setTsp f s).regs = s.regs := rfl
@[simp] theorem setTsp_tile (f : TspUnit → TspUnit) (s : State) : (setTsp f s).tile = s.tile := rfl
@[simp] theorem setTsp_andPhase (f : TspUnit → TspUnit) (s : State) : (setTsp f s).andPhase = s.andPhase := rfl
@[simp] theorem setTsp_moreToDraw (f : TspUnit → TspUnit) (s : State) : (setTsp f s).moreToDraw = s.moreToDraw := rfl
@[simp] theorem setTsp_regionPtr (f : TspUnit → TspUnit) (s : State) : (setTsp f s).regionPtr = s.regionPtr := rfl
@[simp] theorem setTsp_listPtr (f : TspUnit → TspUnit) (s : State) : (setTsp f s).listPtr = s.listPtr := rfl
@[simp] theorem setTsp_mode (f : TspUnit → TspUnit) (s : State) : (setTsp f s).mode = s.mode := rfl
@[simp] theorem setTsp_tilex (f : TspUnit → TspUnit) (s : State) : (setTsp f s).tilex = s.tilex := rfl
@[simp] theorem setTsp_tiley (f : TspUnit → TspUnit) (s : State) : (setTsp f s).tiley = s.tiley := rfl
@[simp] theorem setTsp_errors (f : TspUnit → TspUnit) (s : State) : (setTsp f s).errors = s.errors := rfl
@[simp] theorem setTsp_result (f : TspUnit → TspUnit) (s : State) : (setTsp f s).result = s.result := rfl
@[simp] theorem setTsp_entry (f : TspUnit → TspUnit) (s : State) : (setTsp f s).entry = s.entry := rfl
@[simp] theorem setTsp_entryCount (f : TspUnit → TspUnit) (s : State) : (setTsp f s).entryCount = s.entryCount := rfl
@[simp] theorem setTsp_ptIteration (f : TspUnit → TspUnit) (s : State) : (setTsp f s).ptIteration = s.ptIteration := rfl
@[simp] theorem setTsp_fpuCache (f : TspUnit → TspUnit) (s : State) : (setTsp f s).fpuCache = s.fpuCache := rfl
@[simp] theorem setTsp_ctl (f : TspUnit → TspUnit) (s : State) : (setTsp f s).ctl = s.ctl := rfl
@[simp] theorem setTsp_resume (f : TspUnit → TspUnit) (s : State) : (setTsp f s).resume = s.resume := rfl
@[simp] theorem setTsp_ptrIndex (f : TspUnit → TspUnit) (s : State) : (setTsp f s).ptrIndex = s.ptrIndex := rfl
@[simp] theorem setTsp_pix (f : TspUnit → TspUnit) (s : State) : (setTsp f s).pix = s.pix := rfl
@[simp] theorem setTsp_isp (f : TspUnit → TspUnit) (s : State) : (setTsp f s).isp = s.isp := rfl
@[simp] theorem setTsp_tsp (f : TspUnit → TspUnit) (s : State) : (setTsp f s).tsp = f s.tsp := rfl
@[simp] theorem setTsp_depthClearMode (f : TspUnit → TspUnit) (s : State) : (setTsp f s).depthClearMode = s.depthClearMode := rfl
@[simp] theorem setTsp_freeDraws (f : TspUnit → TspUnit) (s : State) : (setTsp f s).freeDraws = s.freeDraws := rfl

/-! `cacheInsert` changes the FPU cache only (R57). -/

@[simp] theorem cacheInsert_vram (p : DrawParameters) (s : State) : (cacheInsert p s).vram = s.vram := rfl
@[simp] theorem cacheInsert_regs (p : DrawParameters) (s : State) : (cacheInsert p s).regs = s.regs := rfl
@[simp] theorem cacheInsert_tile (p : DrawParameters) (s : State) : (cacheInsert p s).tile = s.tile := rfl
@[simp] theorem cacheInsert_andPhase (p : DrawParameters) (s : State) : (cacheInsert p s).andPhase = s.andPhase := rfl
@[simp] theorem cacheInsert_moreToDraw (p : DrawParameters) (s : State) : (cacheInsert p s).moreToDraw = s.moreToDraw := rfl
@[simp] theorem cacheInsert_regionPtr (p : DrawParameters) (s : State) : (cacheInsert p s).regionPtr = s.regionPtr := rfl
@[simp] theorem cacheInsert_listPtr (p : DrawParameters) (s : State) : (cacheInsert p s).listPtr = s.listPtr := rfl
@[simp] theorem cacheInsert_mode (p : DrawParameters) (s : State) : (cacheInsert p s).mode = s.mode := rfl
@[simp] theorem cacheInsert_tilex (p : DrawParameters) (s : State) : (cacheInsert p s).tilex = s.tilex := rfl
@[simp] theorem cacheInsert_tiley (p : DrawParameters) (s : State) : (cacheInsert p s).tiley = s.tiley := rfl
@[simp] theorem cacheInsert_errors (p : DrawParameters) (s : State) : (cacheInsert p s).errors = s.errors := rfl
@[simp] theorem cacheInsert_result (p : DrawParameters) (s : State) : (cacheInsert p s).result = s.result := rfl
@[simp] theorem cacheInsert_entry (p : DrawParameters) (s : State) : (cacheInsert p s).entry = s.entry := rfl
@[simp] theorem cacheInsert_entryCount (p : DrawParameters) (s : State) : (cacheInsert p s).entryCount = s.entryCount := rfl
@[simp] theorem cacheInsert_ptIteration (p : DrawParameters) (s : State) : (cacheInsert p s).ptIteration = s.ptIteration := rfl
@[simp] theorem cacheInsert_fpuCache (p : DrawParameters) (s : State) : (cacheInsert p s).fpuCache = (p.tag, p) :: s.fpuCache.filter fun e => e.1 != p.tag := rfl
@[simp] theorem cacheInsert_ctl (p : DrawParameters) (s : State) : (cacheInsert p s).ctl = s.ctl := rfl
@[simp] theorem cacheInsert_resume (p : DrawParameters) (s : State) : (cacheInsert p s).resume = s.resume := rfl
@[simp] theorem cacheInsert_ptrIndex (p : DrawParameters) (s : State) : (cacheInsert p s).ptrIndex = s.ptrIndex := rfl
@[simp] theorem cacheInsert_pix (p : DrawParameters) (s : State) : (cacheInsert p s).pix = s.pix := rfl
@[simp] theorem cacheInsert_isp (p : DrawParameters) (s : State) : (cacheInsert p s).isp = s.isp := rfl
@[simp] theorem cacheInsert_tsp (p : DrawParameters) (s : State) : (cacheInsert p s).tsp = s.tsp := rfl
@[simp] theorem cacheInsert_depthClearMode (p : DrawParameters) (s : State) : (cacheInsert p s).depthClearMode = s.depthClearMode := rfl
@[simp] theorem cacheInsert_freeDraws (p : DrawParameters) (s : State) : (cacheInsert p s).freeDraws = s.freeDraws := rfl

/-! `nextEntry` moves `listPtr` only (R50). -/

@[simp] theorem nextEntry_vram (s : State) : (nextEntry s).vram = s.vram := rfl
@[simp] theorem nextEntry_regs (s : State) : (nextEntry s).regs = s.regs := rfl
@[simp] theorem nextEntry_tile (s : State) : (nextEntry s).tile = s.tile := rfl
@[simp] theorem nextEntry_andPhase (s : State) : (nextEntry s).andPhase = s.andPhase := rfl
@[simp] theorem nextEntry_moreToDraw (s : State) : (nextEntry s).moreToDraw = s.moreToDraw := rfl
@[simp] theorem nextEntry_regionPtr (s : State) : (nextEntry s).regionPtr = s.regionPtr := rfl
@[simp] theorem nextEntry_listPtr (s : State) : (nextEntry s).listPtr = s.listPtr + 4 := rfl
@[simp] theorem nextEntry_mode (s : State) : (nextEntry s).mode = s.mode := rfl
@[simp] theorem nextEntry_tilex (s : State) : (nextEntry s).tilex = s.tilex := rfl
@[simp] theorem nextEntry_tiley (s : State) : (nextEntry s).tiley = s.tiley := rfl
@[simp] theorem nextEntry_errors (s : State) : (nextEntry s).errors = s.errors := rfl
@[simp] theorem nextEntry_result (s : State) : (nextEntry s).result = s.result := rfl
@[simp] theorem nextEntry_entry (s : State) : (nextEntry s).entry = s.entry := rfl
@[simp] theorem nextEntry_entryCount (s : State) : (nextEntry s).entryCount = s.entryCount := rfl
@[simp] theorem nextEntry_ptIteration (s : State) : (nextEntry s).ptIteration = s.ptIteration := rfl
@[simp] theorem nextEntry_fpuCache (s : State) : (nextEntry s).fpuCache = s.fpuCache := rfl
@[simp] theorem nextEntry_ctl (s : State) : (nextEntry s).ctl = s.ctl := rfl
@[simp] theorem nextEntry_resume (s : State) : (nextEntry s).resume = s.resume := rfl
@[simp] theorem nextEntry_ptrIndex (s : State) : (nextEntry s).ptrIndex = s.ptrIndex := rfl
@[simp] theorem nextEntry_pix (s : State) : (nextEntry s).pix = s.pix := rfl
@[simp] theorem nextEntry_isp (s : State) : (nextEntry s).isp = s.isp := rfl
@[simp] theorem nextEntry_tsp (s : State) : (nextEntry s).tsp = s.tsp := rfl
@[simp] theorem nextEntry_depthClearMode (s : State) : (nextEntry s).depthClearMode = s.depthClearMode := rfl
@[simp] theorem nextEntry_freeDraws (s : State) : (nextEntry s).freeDraws = s.freeDraws := rfl

/-! A DepthMode code changes the ISP's outcome only (R147). -/

@[simp] theorem evalDepth_vram (k : Nat) (s : State) : (evalDepth k s).vram = s.vram := rfl
@[simp] theorem evalDepth_regs (k : Nat) (s : State) : (evalDepth k s).regs = s.regs := rfl
@[simp] theorem evalDepth_tile (k : Nat) (s : State) : (evalDepth k s).tile = s.tile := rfl
@[simp] theorem evalDepth_andPhase (k : Nat) (s : State) : (evalDepth k s).andPhase = s.andPhase := rfl
@[simp] theorem evalDepth_moreToDraw (k : Nat) (s : State) : (evalDepth k s).moreToDraw = s.moreToDraw := rfl
@[simp] theorem evalDepth_regionPtr (k : Nat) (s : State) : (evalDepth k s).regionPtr = s.regionPtr := rfl
@[simp] theorem evalDepth_listPtr (k : Nat) (s : State) : (evalDepth k s).listPtr = s.listPtr := rfl
@[simp] theorem evalDepth_mode (k : Nat) (s : State) : (evalDepth k s).mode = s.mode := rfl
@[simp] theorem evalDepth_tilex (k : Nat) (s : State) : (evalDepth k s).tilex = s.tilex := rfl
@[simp] theorem evalDepth_tiley (k : Nat) (s : State) : (evalDepth k s).tiley = s.tiley := rfl
@[simp] theorem evalDepth_errors (k : Nat) (s : State) : (evalDepth k s).errors = s.errors := rfl
@[simp] theorem evalDepth_result (k : Nat) (s : State) : (evalDepth k s).result = s.result := rfl
@[simp] theorem evalDepth_entry (k : Nat) (s : State) : (evalDepth k s).entry = s.entry := rfl
@[simp] theorem evalDepth_entryCount (k : Nat) (s : State) : (evalDepth k s).entryCount = s.entryCount := rfl
@[simp] theorem evalDepth_ptIteration (k : Nat) (s : State) : (evalDepth k s).ptIteration = s.ptIteration := rfl
@[simp] theorem evalDepth_fpuCache (k : Nat) (s : State) : (evalDepth k s).fpuCache = s.fpuCache := rfl
@[simp] theorem evalDepth_ctl (k : Nat) (s : State) : (evalDepth k s).ctl = s.ctl := rfl
@[simp] theorem evalDepth_resume (k : Nat) (s : State) : (evalDepth k s).resume = s.resume := rfl
@[simp] theorem evalDepth_ptrIndex (k : Nat) (s : State) : (evalDepth k s).ptrIndex = s.ptrIndex := rfl
@[simp] theorem evalDepth_pix (k : Nat) (s : State) : (evalDepth k s).pix = s.pix := rfl
@[simp] theorem evalDepth_isp (k : Nat) (s : State) : (evalDepth k s).isp = { s.isp with pass := depthPasses k s.isp.zf (pixel s s.pix).depthTest } := rfl
@[simp] theorem evalDepth_tsp (k : Nat) (s : State) : (evalDepth k s).tsp = s.tsp := rfl
@[simp] theorem evalDepth_depthClearMode (k : Nat) (s : State) : (evalDepth k s).depthClearMode = s.depthClearMode := rfl
@[simp] theorem evalDepth_freeDraws (k : Nat) (s : State) : (evalDepth k s).freeDraws = s.freeDraws := rfl

/-! A CullMode code changes the ISP's outcome only (R148). -/

@[simp] theorem evalCull_vram (k : Nat) (s : State) : (evalCull k s).vram = s.vram := rfl
@[simp] theorem evalCull_regs (k : Nat) (s : State) : (evalCull k s).regs = s.regs := rfl
@[simp] theorem evalCull_tile (k : Nat) (s : State) : (evalCull k s).tile = s.tile := rfl
@[simp] theorem evalCull_andPhase (k : Nat) (s : State) : (evalCull k s).andPhase = s.andPhase := rfl
@[simp] theorem evalCull_moreToDraw (k : Nat) (s : State) : (evalCull k s).moreToDraw = s.moreToDraw := rfl
@[simp] theorem evalCull_regionPtr (k : Nat) (s : State) : (evalCull k s).regionPtr = s.regionPtr := rfl
@[simp] theorem evalCull_listPtr (k : Nat) (s : State) : (evalCull k s).listPtr = s.listPtr := rfl
@[simp] theorem evalCull_mode (k : Nat) (s : State) : (evalCull k s).mode = s.mode := rfl
@[simp] theorem evalCull_tilex (k : Nat) (s : State) : (evalCull k s).tilex = s.tilex := rfl
@[simp] theorem evalCull_tiley (k : Nat) (s : State) : (evalCull k s).tiley = s.tiley := rfl
@[simp] theorem evalCull_errors (k : Nat) (s : State) : (evalCull k s).errors = s.errors := rfl
@[simp] theorem evalCull_result (k : Nat) (s : State) : (evalCull k s).result = s.result := rfl
@[simp] theorem evalCull_entry (k : Nat) (s : State) : (evalCull k s).entry = s.entry := rfl
@[simp] theorem evalCull_entryCount (k : Nat) (s : State) : (evalCull k s).entryCount = s.entryCount := rfl
@[simp] theorem evalCull_ptIteration (k : Nat) (s : State) : (evalCull k s).ptIteration = s.ptIteration := rfl
@[simp] theorem evalCull_fpuCache (k : Nat) (s : State) : (evalCull k s).fpuCache = s.fpuCache := rfl
@[simp] theorem evalCull_ctl (k : Nat) (s : State) : (evalCull k s).ctl = s.ctl := rfl
@[simp] theorem evalCull_resume (k : Nat) (s : State) : (evalCull k s).resume = s.resume := rfl
@[simp] theorem evalCull_ptrIndex (k : Nat) (s : State) : (evalCull k s).ptrIndex = s.ptrIndex := rfl
@[simp] theorem evalCull_pix (k : Nat) (s : State) : (evalCull k s).pix = s.pix := rfl
@[simp] theorem evalCull_isp (k : Nat) (s : State) : (evalCull k s).isp = { s.isp with culled := culls k s.isp.area2 (reg s .fpuCullVal) } := rfl
@[simp] theorem evalCull_tsp (k : Nat) (s : State) : (evalCull k s).tsp = s.tsp := rfl
@[simp] theorem evalCull_depthClearMode (k : Nat) (s : State) : (evalCull k s).depthClearMode = s.depthClearMode := rfl
@[simp] theorem evalCull_freeDraws (k : Nat) (s : State) : (evalCull k s).freeDraws = s.freeDraws := rfl

/-! The AND fold changes the tile buffers and `and_phase` only (R353). -/

@[simp] theorem summarizeStencilAnd_vram (s : State) : (summarizeStencilAnd s).vram = s.vram := rfl
@[simp] theorem summarizeStencilAnd_regs (s : State) : (summarizeStencilAnd s).regs = s.regs := rfl
@[simp] theorem summarizeStencilAnd_tile (s : State) : (summarizeStencilAnd s).tile = s.tile.map fun p => { p with stencil := foldAnd p.stencil } := rfl
@[simp] theorem summarizeStencilAnd_andPhase (s : State) : (summarizeStencilAnd s).andPhase = true := rfl
@[simp] theorem summarizeStencilAnd_moreToDraw (s : State) : (summarizeStencilAnd s).moreToDraw = s.moreToDraw := rfl
@[simp] theorem summarizeStencilAnd_regionPtr (s : State) : (summarizeStencilAnd s).regionPtr = s.regionPtr := rfl
@[simp] theorem summarizeStencilAnd_listPtr (s : State) : (summarizeStencilAnd s).listPtr = s.listPtr := rfl
@[simp] theorem summarizeStencilAnd_mode (s : State) : (summarizeStencilAnd s).mode = s.mode := rfl
@[simp] theorem summarizeStencilAnd_tilex (s : State) : (summarizeStencilAnd s).tilex = s.tilex := rfl
@[simp] theorem summarizeStencilAnd_tiley (s : State) : (summarizeStencilAnd s).tiley = s.tiley := rfl
@[simp] theorem summarizeStencilAnd_errors (s : State) : (summarizeStencilAnd s).errors = s.errors := rfl
@[simp] theorem summarizeStencilAnd_result (s : State) : (summarizeStencilAnd s).result = s.result := rfl
@[simp] theorem summarizeStencilAnd_entry (s : State) : (summarizeStencilAnd s).entry = s.entry := rfl
@[simp] theorem summarizeStencilAnd_entryCount (s : State) : (summarizeStencilAnd s).entryCount = s.entryCount := rfl
@[simp] theorem summarizeStencilAnd_ptIteration (s : State) : (summarizeStencilAnd s).ptIteration = s.ptIteration := rfl
@[simp] theorem summarizeStencilAnd_fpuCache (s : State) : (summarizeStencilAnd s).fpuCache = s.fpuCache := rfl
@[simp] theorem summarizeStencilAnd_ctl (s : State) : (summarizeStencilAnd s).ctl = s.ctl := rfl
@[simp] theorem summarizeStencilAnd_resume (s : State) : (summarizeStencilAnd s).resume = s.resume := rfl
@[simp] theorem summarizeStencilAnd_ptrIndex (s : State) : (summarizeStencilAnd s).ptrIndex = s.ptrIndex := rfl
@[simp] theorem summarizeStencilAnd_pix (s : State) : (summarizeStencilAnd s).pix = s.pix := rfl
@[simp] theorem summarizeStencilAnd_isp (s : State) : (summarizeStencilAnd s).isp = s.isp := rfl
@[simp] theorem summarizeStencilAnd_tsp (s : State) : (summarizeStencilAnd s).tsp = s.tsp := rfl
@[simp] theorem summarizeStencilAnd_depthClearMode (s : State) : (summarizeStencilAnd s).depthClearMode = s.depthClearMode := rfl
@[simp] theorem summarizeStencilAnd_freeDraws (s : State) : (summarizeStencilAnd s).freeDraws = s.freeDraws := rfl

/-! Drawing a free rational moves the counter only. -/

@[simp] theorem drawRational_vram (s : State) : ((drawRational s).2).vram = s.vram := rfl
@[simp] theorem drawRational_regs (s : State) : ((drawRational s).2).regs = s.regs := rfl
@[simp] theorem drawRational_tile (s : State) : ((drawRational s).2).tile = s.tile := rfl
@[simp] theorem drawRational_andPhase (s : State) : ((drawRational s).2).andPhase = s.andPhase := rfl
@[simp] theorem drawRational_moreToDraw (s : State) : ((drawRational s).2).moreToDraw = s.moreToDraw := rfl
@[simp] theorem drawRational_regionPtr (s : State) : ((drawRational s).2).regionPtr = s.regionPtr := rfl
@[simp] theorem drawRational_listPtr (s : State) : ((drawRational s).2).listPtr = s.listPtr := rfl
@[simp] theorem drawRational_mode (s : State) : ((drawRational s).2).mode = s.mode := rfl
@[simp] theorem drawRational_tilex (s : State) : ((drawRational s).2).tilex = s.tilex := rfl
@[simp] theorem drawRational_tiley (s : State) : ((drawRational s).2).tiley = s.tiley := rfl
@[simp] theorem drawRational_errors (s : State) : ((drawRational s).2).errors = s.errors := rfl
@[simp] theorem drawRational_result (s : State) : ((drawRational s).2).result = s.result := rfl
@[simp] theorem drawRational_entry (s : State) : ((drawRational s).2).entry = s.entry := rfl
@[simp] theorem drawRational_entryCount (s : State) : ((drawRational s).2).entryCount = s.entryCount := rfl
@[simp] theorem drawRational_ptIteration (s : State) : ((drawRational s).2).ptIteration = s.ptIteration := rfl
@[simp] theorem drawRational_fpuCache (s : State) : ((drawRational s).2).fpuCache = s.fpuCache := rfl
@[simp] theorem drawRational_ctl (s : State) : ((drawRational s).2).ctl = s.ctl := rfl
@[simp] theorem drawRational_resume (s : State) : ((drawRational s).2).resume = s.resume := rfl
@[simp] theorem drawRational_ptrIndex (s : State) : ((drawRational s).2).ptrIndex = s.ptrIndex := rfl
@[simp] theorem drawRational_pix (s : State) : ((drawRational s).2).pix = s.pix := rfl
@[simp] theorem drawRational_isp (s : State) : ((drawRational s).2).isp = s.isp := rfl
@[simp] theorem drawRational_tsp (s : State) : ((drawRational s).2).tsp = s.tsp := rfl
@[simp] theorem drawRational_depthClearMode (s : State) : ((drawRational s).2).depthClearMode = s.depthClearMode := rfl
@[simp] theorem drawRational_freeDraws (s : State) : ((drawRational s).2).freeDraws = s.freeDraws + 1 := rfl

/-! Drawing a free byte moves the counter only. -/

@[simp] theorem drawByte_vram (s : State) : ((drawByte s).2).vram = s.vram := rfl
@[simp] theorem drawByte_regs (s : State) : ((drawByte s).2).regs = s.regs := rfl
@[simp] theorem drawByte_tile (s : State) : ((drawByte s).2).tile = s.tile := rfl
@[simp] theorem drawByte_andPhase (s : State) : ((drawByte s).2).andPhase = s.andPhase := rfl
@[simp] theorem drawByte_moreToDraw (s : State) : ((drawByte s).2).moreToDraw = s.moreToDraw := rfl
@[simp] theorem drawByte_regionPtr (s : State) : ((drawByte s).2).regionPtr = s.regionPtr := rfl
@[simp] theorem drawByte_listPtr (s : State) : ((drawByte s).2).listPtr = s.listPtr := rfl
@[simp] theorem drawByte_mode (s : State) : ((drawByte s).2).mode = s.mode := rfl
@[simp] theorem drawByte_tilex (s : State) : ((drawByte s).2).tilex = s.tilex := rfl
@[simp] theorem drawByte_tiley (s : State) : ((drawByte s).2).tiley = s.tiley := rfl
@[simp] theorem drawByte_errors (s : State) : ((drawByte s).2).errors = s.errors := rfl
@[simp] theorem drawByte_result (s : State) : ((drawByte s).2).result = s.result := rfl
@[simp] theorem drawByte_entry (s : State) : ((drawByte s).2).entry = s.entry := rfl
@[simp] theorem drawByte_entryCount (s : State) : ((drawByte s).2).entryCount = s.entryCount := rfl
@[simp] theorem drawByte_ptIteration (s : State) : ((drawByte s).2).ptIteration = s.ptIteration := rfl
@[simp] theorem drawByte_fpuCache (s : State) : ((drawByte s).2).fpuCache = s.fpuCache := rfl
@[simp] theorem drawByte_ctl (s : State) : ((drawByte s).2).ctl = s.ctl := rfl
@[simp] theorem drawByte_resume (s : State) : ((drawByte s).2).resume = s.resume := rfl
@[simp] theorem drawByte_ptrIndex (s : State) : ((drawByte s).2).ptrIndex = s.ptrIndex := rfl
@[simp] theorem drawByte_pix (s : State) : ((drawByte s).2).pix = s.pix := rfl
@[simp] theorem drawByte_isp (s : State) : ((drawByte s).2).isp = s.isp := rfl
@[simp] theorem drawByte_tsp (s : State) : ((drawByte s).2).tsp = s.tsp := rfl
@[simp] theorem drawByte_depthClearMode (s : State) : ((drawByte s).2).depthClearMode = s.depthClearMode := rfl
@[simp] theorem drawByte_freeDraws (s : State) : ((drawByte s).2).freeDraws = s.freeDraws + 1 := rfl

/-! Drawing a free vertex moves the counter only. -/

@[simp] theorem drawVertex_vram (s : State) : ((drawVertex s).2).vram = s.vram := rfl
@[simp] theorem drawVertex_regs (s : State) : ((drawVertex s).2).regs = s.regs := rfl
@[simp] theorem drawVertex_tile (s : State) : ((drawVertex s).2).tile = s.tile := rfl
@[simp] theorem drawVertex_andPhase (s : State) : ((drawVertex s).2).andPhase = s.andPhase := rfl
@[simp] theorem drawVertex_moreToDraw (s : State) : ((drawVertex s).2).moreToDraw = s.moreToDraw := rfl
@[simp] theorem drawVertex_regionPtr (s : State) : ((drawVertex s).2).regionPtr = s.regionPtr := rfl
@[simp] theorem drawVertex_listPtr (s : State) : ((drawVertex s).2).listPtr = s.listPtr := rfl
@[simp] theorem drawVertex_mode (s : State) : ((drawVertex s).2).mode = s.mode := rfl
@[simp] theorem drawVertex_tilex (s : State) : ((drawVertex s).2).tilex = s.tilex := rfl
@[simp] theorem drawVertex_tiley (s : State) : ((drawVertex s).2).tiley = s.tiley := rfl
@[simp] theorem drawVertex_errors (s : State) : ((drawVertex s).2).errors = s.errors := rfl
@[simp] theorem drawVertex_result (s : State) : ((drawVertex s).2).result = s.result := rfl
@[simp] theorem drawVertex_entry (s : State) : ((drawVertex s).2).entry = s.entry := rfl
@[simp] theorem drawVertex_entryCount (s : State) : ((drawVertex s).2).entryCount = s.entryCount := rfl
@[simp] theorem drawVertex_ptIteration (s : State) : ((drawVertex s).2).ptIteration = s.ptIteration := rfl
@[simp] theorem drawVertex_fpuCache (s : State) : ((drawVertex s).2).fpuCache = s.fpuCache := rfl
@[simp] theorem drawVertex_ctl (s : State) : ((drawVertex s).2).ctl = s.ctl := rfl
@[simp] theorem drawVertex_resume (s : State) : ((drawVertex s).2).resume = s.resume := rfl
@[simp] theorem drawVertex_ptrIndex (s : State) : ((drawVertex s).2).ptrIndex = s.ptrIndex := rfl
@[simp] theorem drawVertex_pix (s : State) : ((drawVertex s).2).pix = s.pix := rfl
@[simp] theorem drawVertex_isp (s : State) : ((drawVertex s).2).isp = s.isp := rfl
@[simp] theorem drawVertex_tsp (s : State) : ((drawVertex s).2).tsp = s.tsp := rfl
@[simp] theorem drawVertex_depthClearMode (s : State) : ((drawVertex s).2).depthClearMode = s.depthClearMode := rfl
@[simp] theorem drawVertex_freeDraws (s : State) : ((drawVertex s).2).freeDraws = s.freeDraws + 1 := rfl

/-! `pokeReg` changes the register file only. -/

@[simp] theorem pokeReg_vram (r : Reg) (w : Word) (s : State) : (pokeReg r w s).vram = s.vram := rfl
@[simp] theorem pokeReg_regs (r : Reg) (w : Word) (s : State) : (pokeReg r w s).regs = sparseSet s.regs (regOffset r / 4) w := rfl
@[simp] theorem pokeReg_tile (r : Reg) (w : Word) (s : State) : (pokeReg r w s).tile = s.tile := rfl
@[simp] theorem pokeReg_andPhase (r : Reg) (w : Word) (s : State) : (pokeReg r w s).andPhase = s.andPhase := rfl
@[simp] theorem pokeReg_moreToDraw (r : Reg) (w : Word) (s : State) : (pokeReg r w s).moreToDraw = s.moreToDraw := rfl
@[simp] theorem pokeReg_regionPtr (r : Reg) (w : Word) (s : State) : (pokeReg r w s).regionPtr = s.regionPtr := rfl
@[simp] theorem pokeReg_listPtr (r : Reg) (w : Word) (s : State) : (pokeReg r w s).listPtr = s.listPtr := rfl
@[simp] theorem pokeReg_mode (r : Reg) (w : Word) (s : State) : (pokeReg r w s).mode = s.mode := rfl
@[simp] theorem pokeReg_tilex (r : Reg) (w : Word) (s : State) : (pokeReg r w s).tilex = s.tilex := rfl
@[simp] theorem pokeReg_tiley (r : Reg) (w : Word) (s : State) : (pokeReg r w s).tiley = s.tiley := rfl
@[simp] theorem pokeReg_errors (r : Reg) (w : Word) (s : State) : (pokeReg r w s).errors = s.errors := rfl
@[simp] theorem pokeReg_result (r : Reg) (w : Word) (s : State) : (pokeReg r w s).result = s.result := rfl
@[simp] theorem pokeReg_entry (r : Reg) (w : Word) (s : State) : (pokeReg r w s).entry = s.entry := rfl
@[simp] theorem pokeReg_entryCount (r : Reg) (w : Word) (s : State) : (pokeReg r w s).entryCount = s.entryCount := rfl
@[simp] theorem pokeReg_ptIteration (r : Reg) (w : Word) (s : State) : (pokeReg r w s).ptIteration = s.ptIteration := rfl
@[simp] theorem pokeReg_fpuCache (r : Reg) (w : Word) (s : State) : (pokeReg r w s).fpuCache = s.fpuCache := rfl
@[simp] theorem pokeReg_ctl (r : Reg) (w : Word) (s : State) : (pokeReg r w s).ctl = s.ctl := rfl
@[simp] theorem pokeReg_resume (r : Reg) (w : Word) (s : State) : (pokeReg r w s).resume = s.resume := rfl
@[simp] theorem pokeReg_ptrIndex (r : Reg) (w : Word) (s : State) : (pokeReg r w s).ptrIndex = s.ptrIndex := rfl
@[simp] theorem pokeReg_pix (r : Reg) (w : Word) (s : State) : (pokeReg r w s).pix = s.pix := rfl
@[simp] theorem pokeReg_isp (r : Reg) (w : Word) (s : State) : (pokeReg r w s).isp = s.isp := rfl
@[simp] theorem pokeReg_tsp (r : Reg) (w : Word) (s : State) : (pokeReg r w s).tsp = s.tsp := rfl
@[simp] theorem pokeReg_depthClearMode (r : Reg) (w : Word) (s : State) : (pokeReg r w s).depthClearMode = s.depthClearMode := rfl
@[simp] theorem pokeReg_freeDraws (r : Reg) (w : Word) (s : State) : (pokeReg r w s).freeDraws = s.freeDraws := rfl

/-! `pokeWord` changes VRAM only. -/

@[simp] theorem pokeWord_vram (a : Nat) (w : Word) (s : State) : (pokeWord a w s).vram = store32 s.vram a w := rfl
@[simp] theorem pokeWord_regs (a : Nat) (w : Word) (s : State) : (pokeWord a w s).regs = s.regs := rfl
@[simp] theorem pokeWord_tile (a : Nat) (w : Word) (s : State) : (pokeWord a w s).tile = s.tile := rfl
@[simp] theorem pokeWord_andPhase (a : Nat) (w : Word) (s : State) : (pokeWord a w s).andPhase = s.andPhase := rfl
@[simp] theorem pokeWord_moreToDraw (a : Nat) (w : Word) (s : State) : (pokeWord a w s).moreToDraw = s.moreToDraw := rfl
@[simp] theorem pokeWord_regionPtr (a : Nat) (w : Word) (s : State) : (pokeWord a w s).regionPtr = s.regionPtr := rfl
@[simp] theorem pokeWord_listPtr (a : Nat) (w : Word) (s : State) : (pokeWord a w s).listPtr = s.listPtr := rfl
@[simp] theorem pokeWord_mode (a : Nat) (w : Word) (s : State) : (pokeWord a w s).mode = s.mode := rfl
@[simp] theorem pokeWord_tilex (a : Nat) (w : Word) (s : State) : (pokeWord a w s).tilex = s.tilex := rfl
@[simp] theorem pokeWord_tiley (a : Nat) (w : Word) (s : State) : (pokeWord a w s).tiley = s.tiley := rfl
@[simp] theorem pokeWord_errors (a : Nat) (w : Word) (s : State) : (pokeWord a w s).errors = s.errors := rfl
@[simp] theorem pokeWord_result (a : Nat) (w : Word) (s : State) : (pokeWord a w s).result = s.result := rfl
@[simp] theorem pokeWord_entry (a : Nat) (w : Word) (s : State) : (pokeWord a w s).entry = s.entry := rfl
@[simp] theorem pokeWord_entryCount (a : Nat) (w : Word) (s : State) : (pokeWord a w s).entryCount = s.entryCount := rfl
@[simp] theorem pokeWord_ptIteration (a : Nat) (w : Word) (s : State) : (pokeWord a w s).ptIteration = s.ptIteration := rfl
@[simp] theorem pokeWord_fpuCache (a : Nat) (w : Word) (s : State) : (pokeWord a w s).fpuCache = s.fpuCache := rfl
@[simp] theorem pokeWord_ctl (a : Nat) (w : Word) (s : State) : (pokeWord a w s).ctl = s.ctl := rfl
@[simp] theorem pokeWord_resume (a : Nat) (w : Word) (s : State) : (pokeWord a w s).resume = s.resume := rfl
@[simp] theorem pokeWord_ptrIndex (a : Nat) (w : Word) (s : State) : (pokeWord a w s).ptrIndex = s.ptrIndex := rfl
@[simp] theorem pokeWord_pix (a : Nat) (w : Word) (s : State) : (pokeWord a w s).pix = s.pix := rfl
@[simp] theorem pokeWord_isp (a : Nat) (w : Word) (s : State) : (pokeWord a w s).isp = s.isp := rfl
@[simp] theorem pokeWord_tsp (a : Nat) (w : Word) (s : State) : (pokeWord a w s).tsp = s.tsp := rfl
@[simp] theorem pokeWord_depthClearMode (a : Nat) (w : Word) (s : State) : (pokeWord a w s).depthClearMode = s.depthClearMode := rfl
@[simp] theorem pokeWord_freeDraws (a : Nat) (w : Word) (s : State) : (pokeWord a w s).freeDraws = s.freeDraws := rfl

/-! ### Reading one pixel after an update -/

@[simp] theorem pixel_updatePixel_self (i : Fin 1024) (f : Pixel → Pixel) (s : State) :
    pixel (updatePixel i f s) i = f (pixel s i) := by
  simp [pixel, updatePixel]

theorem pixel_updatePixel_other (i j : Fin 1024) (f : Pixel → Pixel) (s : State) (h : j ≠ i) :
    pixel (updatePixel i f s) j = pixel s j := by
  have hv : (i : Nat) ≠ (j : Nat) := fun e => h (Fin.ext e.symm)
  simp [pixel, updatePixel, Vector.getElem_set_ne, hv]

@[simp] theorem pixel_mapTile (i : Fin 1024) (f : Pixel → Pixel) (s : State) :
    pixel (mapTile f s) i = f (pixel s i) := by
  simp [pixel, mapTile]

@[simp] theorem pixel_summarizeStencilOr (i : Fin 1024) (s : State) :
    pixel (summarizeStencilOr s) i = { pixel s i with stencil := foldOr (pixel s i).stencil } :=
  pixel_mapTile i _ s

@[simp] theorem pixel_summarizeStencilAnd (i : Fin 1024) (s : State) :
    pixel (summarizeStencilAnd s) i = { pixel s i with stencil := foldAnd (pixel s i).stencil } :=
  pixel_mapTile i _ s

/-- Two states with the same tile buffers have the same pixels. -/
theorem pixel_congr {s t : State} (h : t.tile = s.tile) (i : Fin 1024) : pixel t i = pixel s i := by
  simp [pixel, h]

/-- Tile buffers are equal when every pixel is. -/
theorem tile_ext {s t : State} (h : ∀ i, pixel t i = pixel s i) : t.tile = s.tile := by
  apply Vector.ext
  intro k hk
  exact h ⟨k, hk⟩

end Sys2Proof.Machine
end

