-- ==== Sys2Proof/Laws/Frame.lean ====
section
/-! SUPPORT. What each operation of shading and drawing leaves alone: one lemma per operation. -/

namespace Sys2Proof.Machine

/-! ### The two frames -/

theorem DrawFrame.refl (s : State) : DrawFrame s s :=
  ⟨rfl, rfl, rfl, rfl, rfl, rfl, rfl, rfl, rfl, rfl, rfl, rfl, rfl, rfl, rfl, List.prefix_refl _⟩

theorem DrawFrame.trans {s t u : State} (h : DrawFrame s t) (k : DrawFrame t u) : DrawFrame s u :=
  ⟨k.vram.trans h.vram, k.regs.trans h.regs, k.regionPtr.trans h.regionPtr, k.listPtr.trans h.listPtr,
    k.mode.trans h.mode, k.tilex.trans h.tilex, k.tiley.trans h.tiley, k.result.trans h.result,
    k.entry.trans h.entry, k.entryCount.trans h.entryCount, k.ptIteration.trans h.ptIteration, k.ctl.trans h.ctl,
    k.resume.trans h.resume, k.ptrIndex.trans h.ptrIndex, k.depthClearMode.trans h.depthClearMode,
    h.errors.trans k.errors⟩

theorem ShadeFrame.refl (s : State) : ShadeFrame s s := ⟨DrawFrame.refl s, rfl, rfl, rfl, rfl, rfl, rfl⟩

theorem ShadeFrame.trans {s t u : State} (h : ShadeFrame s t) (k : ShadeFrame t u) : ShadeFrame s u :=
  ⟨h.toDrawFrame.trans k.toDrawFrame, k.tile.trans h.tile, k.andPhase.trans h.andPhase,
    k.moreToDraw.trans h.moreToDraw, k.fpuCache.trans h.fpuCache, k.isp.trans h.isp, k.pix.trans h.pix⟩

/-- Shading leaves every register's value alone. -/
theorem DrawFrame.reg_eq {s t : State} (h : DrawFrame s t) (r : Reg) : reg t r = reg s r := by
  simp [reg, h.regs]

/-- Shading leaves every pixel of the tile buffers alone. -/
theorem ShadeFrame.pixel_eq {s t : State} (h : ShadeFrame s t) (i : Fin 1024) : pixel t i = pixel s i :=
  pixel_congr h.tile i

/-! ### Shading -/

/-- The TSP's registers are no part of the frame. -/
theorem shadeFrame_setTsp (f : TspUnit → TspUnit) (s : State) : ShadeFrame s (setTsp f s) :=
  ⟨⟨rfl, rfl, rfl, rfl, rfl, rfl, rfl, rfl, rfl, rfl, rfl, rfl, rfl, rfl, rfl, List.prefix_refl _⟩,
    rfl, rfl, rfl, rfl, rfl, rfl⟩

theorem shadeFrame_report (e : FrameError) (s : State) : ShadeFrame s (report e s) :=
  ⟨⟨rfl, rfl, rfl, rfl, rfl, rfl, rfl, rfl, rfl, rfl, rfl, rfl, rfl, rfl, rfl, List.prefix_append _ _⟩,
    rfl, rfl, rfl, rfl, rfl, rfl⟩

theorem shadeFrame_drawRational (s : State) : ShadeFrame s (drawRational s).2 :=
  ⟨⟨rfl, rfl, rfl, rfl, rfl, rfl, rfl, rfl, rfl, rfl, rfl, rfl, rfl, rfl, rfl, List.prefix_refl _⟩,
    rfl, rfl, rfl, rfl, rfl, rfl⟩

theorem shadeFrame_drawByte (s : State) : ShadeFrame s (drawByte s).2 :=
  ⟨⟨rfl, rfl, rfl, rfl, rfl, rfl, rfl, rfl, rfl, rfl, rfl, rfl, rfl, rfl, rfl, List.prefix_refl _⟩,
    rfl, rfl, rfl, rfl, rfl, rfl⟩

theorem shadeFrame_drawVertex (s : State) : ShadeFrame s (drawVertex s).2 :=
  ⟨⟨rfl, rfl, rfl, rfl, rfl, rfl, rfl, rfl, rfl, rfl, rfl, rfl, rfl, rfl, rfl, List.prefix_refl _⟩,
    rfl, rfl, rfl, rfl, rfl, rfl⟩

/-- An access reports at most (R95). -/
theorem shadeFrame_touch (a : Nat) (s : State) : ShadeFrame s (touch a s) := by
  unfold touch
  split
  · exact shadeFrame_report _ s
  · exact ShadeFrame.refl s

theorem shadeFrame_touchAll : ∀ (as : List Nat) (s : State), ShadeFrame s (touchAll as s)
  | [], s => ShadeFrame.refl s
  | a :: as, s => (shadeFrame_touch a s).trans (shadeFrame_touchAll as (touch a s))

/-- All that accessing addresses in order does (R95, R607): one report for each at or above 8 MiB, in order. -/
theorem touchAll_eq : ∀ (as : List Nat) (s : State), touchAll as s = { s with
    errors := s.errors ++ as.flatMap fun a => if vramSize ≤ a then [FrameError.addressOutOfRange a] else [] }
  | [], s => by simp [touchAll]
  | a :: as, s => by
    rw [touchAll, touchAll_eq as]
    unfold touch report
    split <;> simp [*]

theorem shadeFrame_stripVertex (vs : List Vertex) (k : Nat) (s : State) : ShadeFrame s (stripVertex vs k s).2 := by
  unfold stripVertex
  split
  · exact ShadeFrame.refl s
  · exact shadeFrame_drawVertex s

theorem shadeFrame_directDecode (t : Word) (s : State) : ShadeFrame s (directDecode t s).2 :=
  (((shadeFrame_touchAll _ s).trans (shadeFrame_stripVertex _ _ _)).trans (shadeFrame_stripVertex _ _ _)).trans
    (shadeFrame_stripVertex _ _ _)

/-! What shading takes of a primitive (R401, log 29), and the fields a block's ISP word gives (R146, R168, log 37). -/

@[simp] theorem shadingParameters_hdr (p : DrawParameters) : (shadingParameters p).hdr = p.hdr := rfl
@[simp] theorem shadingParameters_v0 (p : DrawParameters) : (shadingParameters p).v0 = p.v0 := rfl
@[simp] theorem shadingParameters_v1 (p : DrawParameters) : (shadingParameters p).v1 = p.v1 := rfl
@[simp] theorem shadingParameters_v2 (p : DrawParameters) : (shadingParameters p).v2 = p.v2 := rfl
@[simp] theorem shadingParameters_v3 (p : DrawParameters) : (shadingParameters p).v3 = none := rfl
@[simp] theorem shadingParameters_tag (p : DrawParameters) : (shadingParameters p).tag = p.tag := rfl

@[simp] theorem directDecode_v3 (t : Word) (s : State) : (directDecode t s).1.v3 = none := rfl

@[simp] theorem polygonWord_modifier (w : Word) : polygonWord .modifier w = w &&& 0xF8000000 := rfl

theorem polygonWord_of_ne {m : RenderMode} (h : m ≠ .modifier) (w : Word) : polygonWord m w = w := if_neg h

/-- A tag resolves to its cache entry, unless it bypasses the cache or is not there: then it is decoded (R401). -/
theorem resolve_cases (t : Word) (s : State) :
    (∃ p, tagBypass t = false ∧ cacheLookup s t = some p ∧ resolve t s = (shadingParameters p, s)) ∨
    ((tagBypass t = true ∨ cacheLookup s t = none) ∧ resolve t s = directDecode t s) := by
  unfold resolve
  cases hb : tagBypass t
  · cases hc : cacheLookup s t with
    | none => exact .inr ⟨.inr rfl, by simp⟩
    | some p => exact .inl ⟨p, rfl, rfl, by simp⟩
  · exact .inr ⟨.inl rfl, by simp⟩

/-- Both ways of resolving a tag give parameters without a fourth vertex (log 29). -/
theorem resolve_v3 (t : Word) (s : State) : (resolve t s).1.v3 = none := by
  rcases resolve_cases t s with ⟨p, -, -, h⟩ | ⟨-, h⟩ <;> rw [h] <;> rfl

/-- Resolving a tag (R401). -/
theorem shadeFrame_resolve (t : Word) (s : State) : ShadeFrame s (resolve t s).2 := by
  rcases resolve_cases t s with ⟨p, -, -, h⟩ | ⟨-, h⟩ <;> rw [h]
  · exact ShadeFrame.refl s
  · exact shadeFrame_directDecode t s

theorem shadeFrame_shadingCoordinate (w : Word) (s : State) : ShadeFrame s (shadingCoordinate w s).2 := by
  unfold shadingCoordinate
  split
  · exact ShadeFrame.refl s
  · exact shadeFrame_drawRational s

theorem shadeFrame_shadingPlane (p : DrawParameters) (s : State) : ShadeFrame s (shadingPlane p s).2 := by
  have h := shadeFrame_shadingCoordinate
  exact ((((((((h _ _).trans (h _ _)).trans (h _ _)).trans (h _ _)).trans (h _ _)).trans (h _ _)).trans
    (h _ _)).trans (h _ _)).trans (h _ _)

theorem shadeFrame_shadingWeights (t : Plane) (px py : Rat) (s : State) :
    ShadeFrame s (shadingWeights t px py s).2 := by
  unfold shadingWeights
  split
  · exact ((shadeFrame_drawRational _).trans (shadeFrame_drawRational _)).trans (shadeFrame_drawRational _)
  · exact ShadeFrame.refl s

theorem shadeFrame_baseLevel (s : State) : ShadeFrame s (baseLevel s) := shadeFrame_setTsp _ s

theorem shadeFrame_evalMip (s : State) : ShadeFrame s (evalMip s) := by
  unfold evalMip
  split
  · exact shadeFrame_setTsp _ s
  · exact shadeFrame_baseLevel s

theorem shadeFrame_setLevel (s : State) : ShadeFrame s (setLevel s) := by
  unfold setLevel
  split
  · exact shadeFrame_evalMip s
  · exact shadeFrame_baseLevel s

theorem shadeFrame_evalTwiddled (s : State) : ShadeFrame s (evalTwiddled s) := shadeFrame_setTsp _ s

theorem shadeFrame_evalStrideScan (b : Bool) (s : State) : ShadeFrame s (evalStrideScan b s) := shadeFrame_setTsp _ s

theorem shadeFrame_scanTexel (s : State) : ShadeFrame s (scanTexel s) := by
  unfold scanTexel
  split
  · exact shadeFrame_evalTwiddled s
  · exact shadeFrame_evalStrideScan _ s

theorem shadeFrame_evalPalette (k : Nat) (s : State) : ShadeFrame s (evalPalette k s) := shadeFrame_setTsp _ s

theorem shadeFrame_readPalette (k : Nat) (s : State) : ShadeFrame s (readPalette k s) :=
  (shadeFrame_setTsp _ s).trans (shadeFrame_evalPalette _ _)

theorem shadeFrame_setTexel (iu iv : Nat) (s : State) : ShadeFrame s (setTexel iu iv s) := shadeFrame_setTsp _ s

theorem shadeFrame_readTexel16 (addr : Nat) (s : State) : ShadeFrame s (readTexel16 addr s).2 :=
  (shadeFrame_scanTexel s).trans (shadeFrame_touchAll _ _)

theorem shadeFrame_evalArgb1555 (addr : Nat) (s : State) : ShadeFrame s (evalArgb1555 addr s) := by
  unfold evalArgb1555
  dsimp only
  exact (shadeFrame_readTexel16 addr s).trans (shadeFrame_setTsp _ _)

theorem shadeFrame_evalRgb565 (addr : Nat) (s : State) : ShadeFrame s (evalRgb565 addr s) := by
  unfold evalRgb565
  dsimp only
  exact (shadeFrame_readTexel16 addr s).trans (shadeFrame_setTsp _ _)

theorem shadeFrame_evalArgb4444 (addr : Nat) (s : State) : ShadeFrame s (evalArgb4444 addr s) := by
  unfold evalArgb4444
  dsimp only
  exact (shadeFrame_readTexel16 addr s).trans (shadeFrame_setTsp _ _)

theorem shadeFrame_evalYuv422 (addr : Nat) (s : State) : ShadeFrame s (evalYuv422 addr s) := by
  unfold evalYuv422
  dsimp only
  exact ((((shadeFrame_setTexel _ _ _).trans (shadeFrame_readTexel16 addr _)).trans (shadeFrame_setTexel _ _ _)).trans
    (shadeFrame_readTexel16 addr _)).trans (shadeFrame_setTsp _ _)

theorem shadeFrame_evalBump (addr : Nat) (s : State) : ShadeFrame s (evalBump addr s) := by
  unfold evalBump
  dsimp only
  exact (shadeFrame_readTexel16 addr s).trans (shadeFrame_setTsp _ _)

theorem shadeFrame_evalPal4 (sel addr : Nat) (s : State) : ShadeFrame s (evalPal4 sel addr s) :=
  ((shadeFrame_evalTwiddled s).trans (shadeFrame_touch _ _)).trans (shadeFrame_readPalette _ _)

theorem shadeFrame_evalPal8 (sel addr : Nat) (s : State) : ShadeFrame s (evalPal8 sel addr s) :=
  ((shadeFrame_evalTwiddled s).trans (shadeFrame_touch _ _)).trans (shadeFrame_readPalette _ _)

/-- Fetching a texel (R420). -/
theorem shadeFrame_fetchTexel (iu iv : Nat) (s : State) : ShadeFrame s (fetchTexel iu iv s) := by
  refine (shadeFrame_setTexel iu iv s).trans ?_
  unfold fetchTexel
  dsimp only
  split
  · exact shadeFrame_evalArgb1555 _ _
  · exact shadeFrame_evalRgb565 _ _
  · exact shadeFrame_evalArgb4444 _ _
  · exact shadeFrame_evalYuv422 _ _
  · exact shadeFrame_evalBump _ _
  · exact shadeFrame_evalPal4 _ _ _
  · exact shadeFrame_evalPal8 _ _ _
  · exact ShadeFrame.refl _

/-- Point sampling (R430). -/
theorem shadeFrame_evalPoint (s : State) : ShadeFrame s (evalPoint s) := by
  unfold evalPoint
  dsimp only
  exact (shadeFrame_fetchTexel _ _ s).trans (shadeFrame_setTsp _ _)

/-- Bilinear sampling (R431). -/
theorem shadeFrame_evalBilinear (s : State) : ShadeFrame s (evalBilinear s) := by
  unfold evalBilinear
  dsimp only
  exact ((((shadeFrame_fetchTexel _ _ s).trans (shadeFrame_fetchTexel _ _ _)).trans (shadeFrame_fetchTexel _ _ _)).trans
    (shadeFrame_fetchTexel _ _ _)).trans (shadeFrame_setTsp _ _)

theorem shadeFrame_evalFilter (k : Nat) (s : State) : ShadeFrame s (evalFilter k s) := by
  unfold evalFilter
  split
  · exact shadeFrame_evalPoint s
  · exact shadeFrame_evalBilinear s

theorem shadeFrame_evalShad (k : Nat) (s : State) : ShadeFrame s (evalShad k s) := shadeFrame_setTsp _ s

theorem shadeFrame_fogAlpha (s : State) : ShadeFrame s (fogAlpha s).2 := by
  unfold fogAlpha
  split
  · exact ShadeFrame.refl s
  · exact shadeFrame_drawByte s

theorem shadeFrame_evalFog (k : Nat) (s : State) : ShadeFrame s (evalFog k s) := by
  unfold evalFog
  split
  · exact (shadeFrame_fogAlpha s).trans (shadeFrame_setTsp _ _)
  · exact shadeFrame_setTsp _ s
  · exact ShadeFrame.refl s
  · exact (shadeFrame_fogAlpha s).trans (shadeFrame_setTsp _ _)

theorem shadeFrame_evalSrc (k : Nat) (s : State) : ShadeFrame s (evalSrc k s) := by
  unfold evalSrc
  dsimp only
  exact shadeFrame_setTsp _ s

theorem shadeFrame_interpolateUv (p : DrawParameters) (second : Bool) (t : Plane) (w : Weights) (s : State) :
    ShadeFrame s (interpolateUv p second t w s) := by
  unfold interpolateUv
  split
  · split
    · exact shadeFrame_setTsp _ s
    · exact (shadeFrame_report _ s).trans (shadeFrame_setTsp _ _)
  · exact ShadeFrame.refl s

theorem shadeFrame_interpolateSet (p : DrawParameters) (second : Bool) (s : State) :
    ShadeFrame s (interpolateSet p second s) :=
  (((shadeFrame_shadingPlane p s).trans (shadeFrame_shadingWeights _ _ _ _)).trans (shadeFrame_setTsp _ _)).trans
    (shadeFrame_interpolateUv p second _ _ _)

/-- The texture stage refuses VQ and format 7, and else completes inside the frame (R404, R415). -/
theorem textureStage_cases (s : State) :
    (bit s.tsp.tcw 30 = true ∧ textureStage s = .refused .vqCompressed) ∨
    (bit s.tsp.tcw 30 = false ∧ bits s.tsp.tcw 29 27 = 7 ∧ textureStage s = .refused .pixelFmtReserved) ∨
    (bit s.tsp.tcw 30 = false ∧ bits s.tsp.tcw 29 27 ≠ 7 ∧ ∃ t, textureStage s = .next t ∧ ShadeFrame s t) := by
  unfold textureStage
  by_cases h1 : bit s.tsp.tcw 30 = true
  · exact .inl ⟨h1, by simp [h1]⟩
  · have h1' : bit s.tsp.tcw 30 = false := by simpa using h1
    by_cases h2 : bits s.tsp.tcw 29 27 = 7
    · exact .inr (.inl ⟨h1', h2, by simp [h1', h2]⟩)
    · refine .inr (.inr ⟨h1', h2, _, by simp [h1', h2]; rfl, ?_⟩)
      exact (((shadeFrame_setLevel s).trans (shadeFrame_evalFilter _ _)).trans (shadeFrame_setTsp _ _)).trans
        (shadeFrame_evalShad _ _)

theorem shadeFrame_colourStage (isp : Word) (s : State) : ShadeFrame s (colourStage isp s) := by
  unfold colourStage
  dsimp only
  have h1 : ShadeFrame s (if bit isp 24 = true then setTsp (fun t => { t with c := addOffset t.c t.offset }) s else s) := by
    split
    · exact shadeFrame_setTsp _ s
    · exact ShadeFrame.refl s
  split
  · exact (h1.trans (shadeFrame_evalFog _ _)).trans (shadeFrame_setTsp _ _)
  · exact h1.trans (shadeFrame_evalFog _ _)

/-- `o` is a next state in the frame of `s`, or one of the shader's two refusals. -/
def Shades (s : State) (o : Res) : Prop :=
  (∃ t, o = .next t ∧ ShadeFrame s t) ∨ o = .refused .vqCompressed ∨ o = .refused .pixelFmtReserved

theorem Shades.andThen {s : State} {o : Res} {f : State → Res} (h : Shades s o) (k : ∀ t, Shades t (f t)) :
    Shades s (andThen o f) := by
  rcases h with ⟨t, rfl, ht⟩ | rfl | rfl
  · rcases k t with ⟨u, hu, hf⟩ | hu | hu
    · exact .inl ⟨u, hu, ht.trans hf⟩
    · exact .inr (.inl hu)
    · exact .inr (.inr hu)
  · exact .inr (.inl rfl)
  · exact .inr (.inr rfl)

theorem Shades.next {s t : State} (h : ShadeFrame s t) : Shades s (.next t) := .inl ⟨t, rfl, h⟩

theorem Shades.from {s t : State} {o : Res} (h : ShadeFrame s t) (k : Shades t o) : Shades s o := by
  rcases k with ⟨u, hu, hf⟩ | hu
  · exact .inl ⟨u, hu, h.trans hf⟩
  · exact .inr hu

theorem shades_textureStage (s : State) : Shades s (textureStage s) := by
  rcases textureStage_cases s with ⟨_, h⟩ | ⟨_, _, h⟩ | ⟨_, _, t, h, hf⟩
  · exact .inr (.inl h)
  · exact .inr (.inr h)
  · exact .inl ⟨t, h, hf⟩

/-- Shading with one parameter set (R404). -/
theorem shades_shadeSet (p : DrawParameters) (second : Bool) (s : State) : Shades s (shadeSet p second s) := by
  unfold shadeSet
  refine Shades.from (shadeFrame_interpolateSet p second s) (Shades.andThen ?_ fun t => ?_)
  · split
    · exact shades_textureStage _
    · exact .next (shadeFrame_setTsp _ _)
  · exact .next (shadeFrame_colourStage _ _)

/-- Everything `shade` can do (R402, R404): with the pixel selected, a next state in the frame, or a refusal (R415). -/
theorem shades_shade (p : DrawParameters) (i : Fin 1024) (s : State) : Shades { s with pix := i } (shade p i s) := by
  unfold shade
  refine Shades.andThen (shades_shadeSet p false _) fun t => ?_
  split
  · refine Shades.andThen (shades_shadeSet p true t) fun u => ?_
    split
    · exact .next (ShadeFrame.refl u)
    · exact .next (shadeFrame_setTsp _ u)
  · exact .next (ShadeFrame.refl t)

/-! ### Drawing -/

theorem drawFrame_updatePixel (i : Fin 1024) (f : Pixel → Pixel) (s : State) : DrawFrame s (updatePixel i f s) :=
  ⟨rfl, rfl, rfl, rfl, rfl, rfl, rfl, rfl, rfl, rfl, rfl, rfl, rfl, rfl, rfl, List.prefix_refl _⟩

theorem drawFrame_mapTile (f : Pixel → Pixel) (s : State) : DrawFrame s (mapTile f s) :=
  ⟨rfl, rfl, rfl, rfl, rfl, rfl, rfl, rfl, rfl, rfl, rfl, rfl, rfl, rfl, rfl, List.prefix_refl _⟩

theorem drawFrame_cacheInsert (p : DrawParameters) (s : State) : DrawFrame s (cacheInsert p s) :=
  ⟨rfl, rfl, rfl, rfl, rfl, rfl, rfl, rfl, rfl, rfl, rfl, rfl, rfl, rfl, rfl, List.prefix_refl _⟩

theorem drawFrame_isp (u : IspUnit) (s : State) : DrawFrame s { s with isp := u } :=
  ⟨rfl, rfl, rfl, rfl, rfl, rfl, rfl, rfl, rfl, rfl, rfl, rfl, rfl, rfl, rfl, List.prefix_refl _⟩

theorem drawFrame_moreToDraw (b : Bool) (s : State) : DrawFrame s { s with moreToDraw := b } :=
  ⟨rfl, rfl, rfl, rfl, rfl, rfl, rfl, rfl, rfl, rfl, rfl, rfl, rfl, rfl, rfl, List.prefix_refl _⟩

theorem drawFrame_andPhase (b : Bool) (s : State) : DrawFrame s { s with andPhase := b } :=
  ⟨rfl, rfl, rfl, rfl, rfl, rfl, rfl, rfl, rfl, rfl, rfl, rfl, rfl, rfl, rfl, List.prefix_refl _⟩

/-- The fragment's depth test changes the ISP's registers and the pixel selector only. -/
theorem drawFrame_testFragment (isp zf : Word) (i : Fin 1024) (s : State) : DrawFrame s (testFragment isp zf i s) :=
  ⟨rfl, rfl, rfl, rfl, rfl, rfl, rfl, rfl, rfl, rfl, rfl, rfl, rfl, rfl, rfl, List.prefix_refl _⟩

theorem drawFrame_evalDst (k : Nat) (s : State) : DrawFrame s (evalDst k s) := by
  unfold evalDst
  exact drawFrame_updatePixel _ _ s

theorem drawFrame_blendPixel (s : State) : DrawFrame s (blendPixel s) :=
  (shadeFrame_evalSrc _ s).toDrawFrame.trans (drawFrame_evalDst _ _)

end Sys2Proof.Machine
end

