-- ==== Sys2Proof/Laws/Draw.lean ====
section
/-! SUPPORT. Everything drawing can do. A relation between states that drawing's few elementary changes keep
(`DrawLaw`, `TagLaw`) is kept by a whole primitive, object-list entry or tag pass; the frames, the invariants and the
rules of single modes are instances. -/

namespace Sys2Proof.Machine

/-- `t` differs from `s` in the units' registers, the pixel selector, the free-value counter and later errors only. -/
structure QuietFrame (s t : State) : Prop extends DrawFrame s t where
  tile : t.tile = s.tile
  andPhase : t.andPhase = s.andPhase
  moreToDraw : t.moreToDraw = s.moreToDraw
  fpuCache : t.fpuCache = s.fpuCache

theorem ShadeFrame.quiet {s t : State} (h : ShadeFrame s t) : QuietFrame s t :=
  ⟨h.toDrawFrame, h.tile, h.andPhase, h.moreToDraw, h.fpuCache⟩

theorem quietFrame_testFragment (isp zf : Word) (i : Fin 1024) (s : State) : QuietFrame s (testFragment isp zf i s) :=
  ⟨drawFrame_testFragment isp zf i s, rfl, rfl, rfl, rfl⟩

theorem quietFrame_pix (i : Fin 1024) (s : State) : QuietFrame s { s with pix := i } :=
  ⟨⟨rfl, rfl, rfl, rfl, rfl, rfl, rfl, rfl, rfl, rfl, rfl, rfl, rfl, rfl, rfl, List.prefix_refl _⟩,
    rfl, rfl, rfl, rfl⟩

theorem QuietFrame.trans {s t u : State} (h : QuietFrame s t) (k : QuietFrame t u) : QuietFrame s u :=
  ⟨h.toDrawFrame.trans k.toDrawFrame, k.tile.trans h.tile, k.andPhase.trans h.andPhase,
    k.moreToDraw.trans h.moreToDraw, k.fpuCache.trans h.fpuCache⟩

/-- A shaded pixel's next state: quiet, and the pixel is selected. -/
theorem shade_next {p : DrawParameters} {i : Fin 1024} {s t : State} (h : shade p i s = .next t) :
    QuietFrame s t ∧ t.pix = i := by
  rcases shades_shade p i s with ⟨v, hv, hf⟩ | hv | hv
  · rw [h] at hv
    cases hv
    exact ⟨(quietFrame_pix i s).trans hf.quiet, hf.pix⟩
  · rw [h] at hv; cases hv
  · rw [h] at hv; cases hv

theorem quietFrame_isp (u : IspUnit) (s : State) : QuietFrame s { s with isp := u } :=
  ⟨drawFrame_isp u s, rfl, rfl, rfl, rfl⟩

/-- A relation the elementary changes of drawing in mode `m` keep (R321 to R328, R352, R353, R320). -/
structure DrawLaw (m : RenderMode) (R : State → State → Prop) : Prop where
  refl : ∀ s, R s s
  trans : ∀ s t u, R s t → R t u → R s u
  quiet : ∀ s t, QuietFrame s t → R s t
  cache : m ≠ .modifier → ∀ p s, s.mode = m → canRasterize p → R s (cacheInsert p s)
  write : m = .opaqueMode → ∀ isp tag zf i s, R s (updatePixel i (writeFragment isp tag zf) s)
  pass0 : m = .punchthroughPass0 → ∀ isp tag zf i s, f32Lt zf (pixel s i).depthRef = true →
    R s { updatePixel i (writeFragment isp tag zf) s with moreToDraw := true }
  passN : m = .punchthroughPassN → ∀ isp tag zf i s, f32Lt zf (pixel s i).depthRef = true →
    f32Lt (pixel s i).depthPrev zf = true →
    R s { updatePixel i (writeFragment isp tag zf) s with moreToDraw := true }
  sort : m = .translucentAutosort → ∀ tag zf i s, peelAfter zf tag (pixel s i) = true →
    peelBefore zf tag (pixel s i) = true →
    R s { updatePixel i (fun p => clearWritten { p with depthTest := zf, tag := tag }) s with moreToDraw := true }
  blend : m = .translucentPresort → ∀ i c s, R s (updatePixel i (fun p => { p with accum := c }) s)
  volume : m = .modifier → ∀ i s, R s (updatePixel i (fun p => { p with stencil := p.stencil ||| 0x01 }) s)
  foldOr : m = .modifier → ∀ s, R s (summarizeStencilOr s)
  foldAnd : m = .modifier → ∀ s, R s (summarizeStencilAnd s)

namespace DrawLaw

variable {m : RenderMode} {R : State → State → Prop}

/-- Shading and blending a fragment at once (R403). -/
theorem shadeInline (L : DrawLaw m R) (hm : m = .translucentPresort) {p : DrawParameters} {i : Fin 1024}
    {s t : State} (h : Machine.shadeInline p i s = .next t) : R s t := by
  obtain ⟨u, hu, h⟩ := andThen_eq_next.1 h
  cases h
  have hs : R s u := L.quiet _ _ (shade_next hu).1
  exact L.trans _ _ _ hs (L.trans _ (evalSrc (bits u.tsp.tspWord 31 29) u) _
    (L.quiet _ _ (shadeFrame_evalSrc _ u).quiet) (L.blend hm _ _ _))

/-- One fragment under the rule of the mode (R320). -/
theorem pixelRule (L : DrawLaw m R) {p : DrawParameters} {zf : Word} {i : Fin 1024} {s t : State}
    (hs : s.mode = m) (h : Machine.pixelRule p zf i s = .next t) : R s t := by
  have hq := quietFrame_testFragment p.hdr.isp zf i s
  have ht : pixel (testFragment p.hdr.isp zf i s) i = pixel s i := pixel_congr hq.tile i
  unfold Machine.pixelRule at h
  rw [hs] at h
  cases m <;> simp only [Host.Outcome.next.injEq, reduceCtorEq] at h
  · subst h
    unfold pixelOpaque
    dsimp only
    split
    · exact L.trans _ _ _ (L.quiet _ _ hq) (L.write rfl _ _ _ _ _)
    · exact L.quiet _ _ hq
  · subst h
    unfold pixelPass0
    dsimp only
    split
    · rename_i hc
      simp only [Bool.and_eq_true] at hc
      exact L.trans _ _ _ (L.quiet _ _ hq) (L.pass0 rfl _ _ _ _ _ (by rw [ht]; exact hc.2))
    · exact L.quiet _ _ hq
  · subst h
    unfold pixelPassN
    dsimp only
    split
    · rename_i hc
      simp only [Bool.and_eq_true] at hc
      exact L.trans _ _ _ (L.quiet _ _ hq)
        (L.passN rfl _ _ _ _ _ (by rw [ht]; exact hc.1.2) (by rw [ht]; exact hc.2))
    · exact L.quiet _ _ hq
  · subst h
    unfold pixelAutosort
    split
    · rename_i hc
      simp only [Bool.and_eq_true] at hc
      exact L.sort rfl _ _ _ _ hc.1 hc.2
    · exact L.refl _
  · unfold pixelPresort at h
    dsimp only at h
    split at h
    · exact L.trans _ _ _ (L.quiet _ _ hq) (L.shadeInline rfl h)
    · cases h
      exact L.quiet _ _ hq
  · subst h
    unfold pixelModifier
    split
    · exact L.volume rfl _ _
    · exact L.refl _

end DrawLaw

/-- Drawing keeps the mode. -/
theorem drawLaw_frame (m : RenderMode) : DrawLaw m DrawFrame where
  refl := DrawFrame.refl
  trans := fun _ _ _ => DrawFrame.trans
  quiet := fun _ _ h => h.toDrawFrame
  cache := fun _ p s _ _ => drawFrame_cacheInsert p s
  write := fun _ _ _ _ i s => drawFrame_updatePixel i _ s
  pass0 := fun _ _ _ _ i s _ => (drawFrame_updatePixel i _ s).trans (drawFrame_moreToDraw true _)
  passN := fun _ _ _ _ i s _ _ => (drawFrame_updatePixel i _ s).trans (drawFrame_moreToDraw true _)
  sort := fun _ _ _ i s _ _ => (drawFrame_updatePixel i _ s).trans (drawFrame_moreToDraw true _)
  blend := fun _ i _ s => drawFrame_updatePixel i _ s
  volume := fun _ i s => drawFrame_updatePixel i _ s
  foldOr := fun _ s => drawFrame_mapTile _ s
  foldAnd := fun _ s => (drawFrame_mapTile _ s).trans (drawFrame_andPhase true _)

namespace DrawLaw

variable {m : RenderMode} {R : State → State → Prop}

/-- A law of mode `m` as a relation on all states: from a state in mode `m` it holds and the mode stays. -/
def within (m : RenderMode) (R : State → State → Prop) (s t : State) : Prop := s.mode = m → R s t ∧ t.mode = m

theorem within_refl (L : DrawLaw m R) (s : State) : within m R s s := fun h => ⟨L.refl s, h⟩

theorem within_trans (L : DrawLaw m R) (s t u : State) (h : within m R s t) (k : within m R t u) : within m R s u :=
  fun hs => ⟨L.trans _ _ _ (h hs).1 (k (h hs).2).1, (k (h hs).2).2⟩

theorem visitPixel (L : DrawLaw m R) (p : DrawParameters) (covers : Rat → Rat → Bool) (plane : Plane)
    (i : Fin 1024) (s t : State) (h : Machine.visitPixel p covers plane i s = .next t) : within m R s t := by
  intro hs
  unfold Machine.visitPixel at h
  split at h
  · exact ⟨L.pixelRule hs h, ((drawLaw_frame m).pixelRule hs h).mode.trans hs⟩
  · cases h
    exact ⟨L.refl _, hs⟩

theorem quietWithin (L : DrawLaw m R) {s t : State} (h : QuietFrame s t) : within m R s t :=
  fun hs => ⟨L.quiet _ _ h, h.mode.trans hs⟩

/-- Rasterizing over a plane (R320). -/
theorem rasterizePlane (L : DrawLaw m R) {p : DrawParameters} {covers : Rat → Rat → Bool}
    (hp : vertexFinite p.v0 = true ∧ vertexFinite p.v1 = true ∧ vertexFinite p.v2 = true) {s t : State}
    (h : Machine.rasterizePlane p covers s = .next t) : within m R s t := by
  unfold Machine.rasterizePlane at h
  dsimp only at h
  split at h
  · cases h
    exact L.quietWithin (shadeFrame_report _ s).quiet
  · rename_i ha
    have q : QuietFrame s (evalCull (bits p.hdr.isp 28 27)
        { s with isp := { s.isp with area2 := (planeOf p.v0 p.v1 p.v2).area2 } }) :=
      ⟨⟨rfl, rfl, rfl, rfl, rfl, rfl, rfl, rfl, rfl, rfl, rfl, rfl, rfl, rfl, rfl, List.prefix_refl _⟩,
        rfl, rfl, rfl, rfl⟩
    split at h
    · cases h
      exact L.quietWithin q
    · refine L.within_trans _ _ _ (L.quietWithin q) (L.within_trans _ _ _ ?_
        (forEach_rel (within m R) L.within_refl L.within_trans (L.visitPixel p covers _) allPixels h))
      split
      · exact L.within_refl _
      · rename_i hm
        intro hs
        rw [hs] at hm
        exact ⟨L.cache hm _ _ hs ⟨hp.1, hp.2.1, hp.2.2, ha⟩, hs⟩

theorem rasterizeTriangle (L : DrawLaw m R) {hdr : Header} {v0 v1 v2 : Vertex} {tag : Word} {s t : State}
    (h : Machine.rasterizeTriangle hdr v0 v1 v2 tag s = .next t) : within m R s t := by
  unfold Machine.rasterizeTriangle at h
  split at h
  · rename_i hf
    simp only [Bool.and_eq_true] at hf
    exact L.rasterizePlane ⟨hf.1.1, hf.1.2, hf.2⟩ h
  · cases h
    exact L.quietWithin (shadeFrame_report _ s).quiet

theorem rasterizeQuad (L : DrawLaw m R) {hdr : Header} {v0 v1 v2 v3 : Vertex} {tag : Word} {s t : State}
    (h : Machine.rasterizeQuad hdr v0 v1 v2 v3 tag s = .next t) : within m R s t := by
  unfold Machine.rasterizeQuad at h
  split at h
  · rename_i hf
    simp only [Bool.and_eq_true] at hf
    exact L.rasterizePlane ⟨hf.1.1.1, hf.1.1.2, hf.1.2⟩ h
  · cases h
    exact L.quietWithin (shadeFrame_report _ s).quiet

theorem foldAfterBlock (L : DrawLaw m R) {isp : Word} {s t : State}
    (h : Machine.foldAfterBlock isp s = .next t) : within m R s t := by
  intro hs
  unfold Machine.foldAfterBlock at h
  split at h
  · rename_i hm
    have hmm : m = .modifier := hs.symm.trans hm
    unfold evalVolume at h
    split at h
    · cases h
      exact ⟨L.refl _, hs⟩
    · cases h
      exact ⟨L.foldOr hmm _, hs⟩
    · cases h
      exact ⟨L.foldAnd hmm _, hs⟩
    · cases h
  · cases h
    exact ⟨L.refl _, hs⟩

theorem stripTriangle (L : DrawLaw m R) (b : Block) (offs skip : Nat) (shadow : Bool) (mask i : Nat) (s t : State)
    (h : Machine.stripTriangle b offs skip shadow mask i s = .next t) : within m R s t := by
  unfold Machine.stripTriangle at h
  split at h
  · exact L.rasterizeTriangle h
  · cases h
    exact L.within_refl _

/-- A whole strip (R250). -/
theorem renderStrip (L : DrawLaw m R) {offs skip : Nat} {shadow : Bool} {mask : Nat} {s t : State}
    (h : Machine.renderStrip offs skip shadow mask s = .next t) : within m R s t := by
  unfold Machine.renderStrip at h
  obtain ⟨u, hu, h⟩ := andThen_eq_next.1 h
  have hq := L.quietWithin (shadeFrame_touchAll
    (blockAddresses s.mode s.vram (paramBase s + offs * 4) skip (twoVolume s s.mode shadow) 8) s).quiet
  exact L.within_trans _ _ _ hq (L.within_trans _ _ _
    (forEach_rel (within m R) L.within_refl L.within_trans (L.stripTriangle _ _ _ _ _) _ hu) (L.foldAfterBlock h))

theorem arrayPrimitive (L : DrawLaw m R) {n o skip : Nat} {shadow : Bool} {s t : State}
    (h : Machine.arrayPrimitive n o skip shadow s = .next t) : within m R s t := by
  unfold Machine.arrayPrimitive at h
  obtain ⟨u, hu, h⟩ := andThen_eq_next.1 h
  have hq := L.quietWithin (shadeFrame_touchAll
    (blockAddresses s.mode s.vram (paramBase s + o * 4) skip (twoVolume s s.mode shadow) n) s).quiet
  refine L.within_trans _ _ _ hq (L.within_trans _ _ _ ?_ (L.foldAfterBlock h))
  split at hu
  · exact L.rasterizeTriangle hu
  · exact L.rasterizeQuad hu

/-- A whole array (R255, R257). -/
theorem renderArray (L : DrawLaw m R) {n skip : Nat} {shadow : Bool} : ∀ {count o : Nat} {s t : State},
    Machine.renderArray n skip shadow count o s = .next t → within m R s t
  | 0, _, s, t, h => by cases h; exact L.within_refl _
  | count + 1, o, s, t, h => by
    obtain ⟨u, hu, h⟩ := andThen_eq_next.1 h
    exact L.within_trans _ _ _ (L.arrayPrimitive hu) (L.renderArray h)

end DrawLaw

/-- A relation the elementary changes of a tag pass in mode `m` keep (R400, R456). -/
structure TagLaw (m : RenderMode) (R : State → State → Prop) : Prop where
  refl : ∀ s, R s s
  trans : ∀ s t u, R s t → R t u → R s u
  quiet : ∀ s t, QuietFrame s t → R s t
  hole : m = .punchthroughPass0 → ∀ i s, R s (updatePixel i (zHole (bgTag s)) s)
  shaded : ∀ i c s, R s (updatePixel i (fun p => setWritten { p with accum := c }) s)

namespace TagLaw

variable {m : RenderMode} {R : State → State → Prop}

/-- Writing a pixel twice is writing it once. -/
theorem updatePixel_twice (i : Fin 1024) (f g : Pixel → Pixel) (s : State) :
    updatePixel i g (updatePixel i f s) = updatePixel i (fun p => g (f p)) s := by
  simp [updatePixel, pixel]

/-- One pixel of a tag pass (R400). -/
theorem renderTag (L : TagLaw m R) (i : Fin 1024) (s t : State)
    (h : Machine.renderTag m i s = .next t) : R s t := by
  unfold Machine.renderTag at h
  dsimp only at h
  split at h
  · cases h
    exact L.refl _
  · obtain ⟨u, hu, h⟩ := andThen_eq_next.1 h
    have hs : R s u := L.trans _ _ _ (L.quiet _ _ (shadeFrame_resolve (pixel s i).tag s).quiet)
      (L.quiet _ _ (shade_next hu).1)
    refine L.trans _ _ _ hs ?_
    split at h
    · rename_i hc
      cases h
      exact L.hole hc.1 i u
    · cases h
      have hi : u.pix = i := (shade_next hu).2
      have hq := (shadeFrame_evalSrc (bits u.tsp.tspWord 31 29) u).quiet
      refine L.trans _ _ _ (L.quiet _ _ hq) ?_
      have := L.shaded i
        (zipColor add8 (evalSrc (bits u.tsp.tspWord 31 29) u).tsp.srcTerm
          (zipColor mul8 (pixel (evalSrc (bits u.tsp.tspWord 31 29) u) i).accum
            (blendFactor (bits u.tsp.tspWord 28 26) (evalSrc (bits u.tsp.tspWord 31 29) u).tsp.c
              (evalSrc (bits u.tsp.tspWord 31 29) u).tsp.c
              (pixel (evalSrc (bits u.tsp.tspWord 31 29) u) i).accum)))
        (evalSrc (bits u.tsp.tspWord 31 29) u)
      unfold blendPixel evalDst
      have hpix : (evalSrc (bits u.tsp.tspWord 31 29) u).pix = i := hi
      rw [hpix]
      rw [updatePixel_twice]
      exact this

/-- A whole tag pass (R400). -/
theorem renderParamTags (L : TagLaw m R) {s t : State} (h : Machine.renderParamTags m s = .next t) : R s t :=
  forEach_rel R L.refl L.trans (fun i s t h => L.renderTag i s t h) allPixels h

end TagLaw

/-- A tag pass leaves the driver's state alone. -/
theorem tagLaw_frame (m : RenderMode) : TagLaw m DrawFrame where
  refl := DrawFrame.refl
  trans := fun _ _ _ => DrawFrame.trans
  quiet := fun _ _ h => h.toDrawFrame
  hole := fun _ i s => drawFrame_updatePixel i _ s
  shaded := fun i _ s => drawFrame_updatePixel i _ s

/-! ### Completion -/

theorem interpolateSet_tcw (p : DrawParameters) (second : Bool) (s : State) :
    (interpolateSet p second s).tsp.tcw = setTcw p.hdr second := by
  unfold interpolateSet interpolateUv
  dsimp only
  split
  · split <;> rfl
  · rfl

/-- A set the shader does not refuse is shaded (R404). -/
theorem shadeSet_completes {p : DrawParameters} {second : Bool}
    (h : bit p.hdr.isp 25 = true → tcwOk (setTcw p.hdr second)) (s : State) :
    ∃ t, shadeSet p second s = .next t := by
  unfold shadeSet
  dsimp only
  split
  · rename_i hb
    have ok := h hb
    rw [← interpolateSet_tcw p second s] at ok
    rcases textureStage_cases (interpolateSet p second s) with ⟨h1, _⟩ | ⟨_, h2, _⟩ | ⟨_, _, t, ht, _⟩
    · rw [ok.1] at h1; cases h1
    · exact absurd h2 ok.2
    · exact ⟨_, by rw [ht]; rfl⟩
  · exact ⟨_, rfl⟩

/-- A primitive the shader does not refuse is shaded (R402). -/
theorem shade_completes {p : DrawParameters} (h : shadeable p.hdr) (i : Fin 1024) (s : State) :
    ∃ t, shade p i s = .next t := by
  unfold shade
  obtain ⟨t, ht⟩ := shadeSet_completes (p := p) (second := false) (fun hb => (h hb).1) { s with pix := i }
  rw [ht, andThen_next]
  split
  · rename_i h2
    obtain ⟨u, hu⟩ := shadeSet_completes (p := p) (second := true) (fun hb => (h hb).2 h2) t
    rw [hu, andThen_next]
    split <;> exact ⟨_, rfl⟩
  · exact ⟨_, rfl⟩

/-- One fragment completes (R320). -/
theorem pixelRule_completes {p : DrawParameters} {s : State} (hm : s.mode ≠ .punchthroughMv)
    (hp : s.mode = .translucentPresort → shadeable p.hdr) (zf : Word) (i : Fin 1024) :
    ∃ t, pixelRule p zf i s = .next t := by
  unfold pixelRule
  cases hs : s.mode <;> simp only [Host.Outcome.next.injEq, exists_eq']
  · exact absurd hs hm
  · unfold pixelPresort
    dsimp only
    split
    · obtain ⟨u, hu⟩ := shade_completes (p := shadingParameters p) (hp hs) i (testFragment p.hdr.isp zf i s)
      exact ⟨_, by unfold shadeInline; rw [hu]; rfl⟩
    · exact ⟨_, rfl⟩

/-- A completing operation in mode `m` that stays in the mode. -/
def CompletesIn (m : RenderMode) (f : State → Res) : Prop := ∀ s, s.mode = m → ∃ t, f s = .next t ∧ t.mode = m

theorem visitPixel_completes {m : RenderMode} {p : DrawParameters} (hm : m ≠ .punchthroughMv)
    (hp : m = .translucentPresort → shadeable p.hdr) (covers : Rat → Rat → Bool) (plane : Plane) (i : Fin 1024) :
    CompletesIn m (visitPixel p covers plane i) := by
  intro s hs
  have h : ∃ t, visitPixel p covers plane i s = .next t := by
    unfold visitPixel
    split
    · exact pixelRule_completes (by rw [hs]; exact hm) (by rw [hs]; exact hp) _ i
    · exact ⟨_, rfl⟩
  obtain ⟨t, ht⟩ := h
  exact ⟨t, ht, ((drawLaw_frame m).visitPixel _ _ _ _ _ _ ht hs).2⟩

theorem rasterizePlane_completes {m : RenderMode} {p : DrawParameters} (hm : m ≠ .punchthroughMv)
    (hp : m = .translucentPresort → shadeable p.hdr) (covers : Rat → Rat → Bool) :
    CompletesIn m (rasterizePlane p covers) := by
  intro s hs
  unfold rasterizePlane
  dsimp only
  split
  · exact ⟨_, rfl, hs⟩
  · split
    · exact ⟨_, rfl, hs⟩
    · refine forEach_completes (fun u => u.mode = m) (fun i u hu => visitPixel_completes hm hp covers _ i u hu) _ ?_
      split <;> exact hs

theorem rasterizeTriangle_completes {m : RenderMode} {hdr : Header} (hm : m ≠ .punchthroughMv)
    (hp : m = .translucentPresort → shadeable hdr) (v0 v1 v2 : Vertex) (tag : Word) :
    CompletesIn m (rasterizeTriangle hdr v0 v1 v2 tag) := by
  intro s hs
  unfold rasterizeTriangle
  split
  · exact rasterizePlane_completes (p := ⟨hdr, v0, v1, v2, none, tag⟩) hm hp _ s hs
  · exact ⟨_, rfl, hs⟩

theorem rasterizeQuad_completes {m : RenderMode} {hdr : Header} (hm : m ≠ .punchthroughMv)
    (hp : m = .translucentPresort → shadeable hdr) (v0 v1 v2 v3 : Vertex) (tag : Word) :
    CompletesIn m (rasterizeQuad hdr v0 v1 v2 v3 tag) := by
  intro s hs
  unfold rasterizeQuad
  split
  · exact rasterizePlane_completes (p := ⟨hdr, v0, v1, v2, some v3, tag⟩) hm hp _ s hs
  · exact ⟨_, rfl, hs⟩

theorem foldAfterBlock_completes {m : RenderMode} {isp : Word} (h : m = .modifier → bits isp 31 29 < 3) :
    CompletesIn m (foldAfterBlock isp) := by
  intro s hs
  unfold foldAfterBlock
  split
  · rename_i hm
    have hk := h (hs.symm.trans hm)
    generalize bits isp 31 29 = k at hk
    obtain rfl | rfl | rfl : k = 0 ∨ k = 1 ∨ k = 2 := by omega
    · exact ⟨_, rfl, hs⟩
    · exact ⟨_, rfl, hs⟩
    · exact ⟨_, rfl, hs⟩
  · exact ⟨_, rfl, hs⟩

theorem CompletesIn.andThen {m : RenderMode} {f g : State → Res} (hf : CompletesIn m f) (hg : CompletesIn m g) :
    CompletesIn m (fun s => andThen (f s) g) := by
  intro s hs
  obtain ⟨t, ht, hm⟩ := hf s hs
  obtain ⟨u, hu, hn⟩ := hg t hm
  exact ⟨u, by simp [ht, hu], hn⟩

/-- A strip whose block is ok completes (R250). -/
theorem renderStrip_completes {s : State} {offs skip : Nat} {shadow : Bool} {mask : Nat}
    (hm : s.mode ≠ .punchthroughMv) (hb : blockOk s.mode (stripHeader s offs shadow)) :
    ∃ t, renderStrip offs skip shadow mask s = .next t := by
  unfold renderStrip
  dsimp only
  have ht := (shadeFrame_touchAll (blockAddresses s.mode s.vram (paramBase s + offs * 4) skip
    (twoVolume s s.mode shadow) 8) s).mode
  obtain ⟨u, hu, hum⟩ := forEach_completes (fun u => u.mode = s.mode) (fun i u hu => by
    show ∃ t, stripTriangle (blockAt s.mode s.vram (paramBase s + offs * 4) skip (twoVolume s s.mode shadow) 8) offs skip
      shadow mask i u = .next t ∧ t.mode = s.mode
    unfold stripTriangle
    split
    · exact rasterizeTriangle_completes (m := s.mode) (hdr := stripHeader s offs shadow) hm hb.2 _ _ _ _ u hu
    · exact ⟨_, rfl, hu⟩) [0, 1, 2, 3, 4, 5] ht
  rw [hu, andThen_next]
  obtain ⟨t, ht, _⟩ := foldAfterBlock_completes (m := s.mode) (isp := (stripHeader s offs shadow).isp) hb.1 u hum
  exact ⟨t, ht⟩

/-- One primitive of an array whose block is ok completes (R255). -/
theorem arrayPrimitive_completes {s : State} {n o skip : Nat} {shadow : Bool}
    (hm : s.mode ≠ .punchthroughMv) (hb : blockOk s.mode (arrayHeader s n o skip shadow 0)) :
    ∃ t, arrayPrimitive n o skip shadow s = .next t := by
  have hh : arrayHeader s n o skip shadow 0
      = (blockAt s.mode s.vram (paramBase s + o * 4) skip (twoVolume s s.mode shadow) n).hdr := by
    simp [arrayHeader, blockAt]
  rw [hh] at hb
  unfold arrayPrimitive
  dsimp only
  have ht := (shadeFrame_touchAll (blockAddresses s.mode s.vram (paramBase s + o * 4) skip
    (twoVolume s s.mode shadow) n) s).mode
  have : ∀ r : Res, (∃ u, r = .next u ∧ u.mode = s.mode) → ∃ t, andThen r
      (foldAfterBlock (blockAt s.mode s.vram (paramBase s + o * 4) skip (twoVolume s s.mode shadow) n).hdr.isp) = .next t := by
    rintro r ⟨u, rfl, hu⟩
    obtain ⟨t, ht, _⟩ := foldAfterBlock_completes hb.1 u hu
    exact ⟨t, ht⟩
  apply this
  split
  · exact rasterizeTriangle_completes hm hb.2 _ _ _ _ _ ht
  · exact rasterizeQuad_completes hm hb.2 _ _ _ _ _ _ ht

/-- Drawing leaves the headers of later primitives where they are (R108). -/
theorem arrayHeader_frame {s t : State} (h : DrawFrame s t) (n o skip : Nat) (shadow : Bool) (k : Nat) :
    arrayHeader t n o skip shadow k = arrayHeader s n o skip shadow k := by
  simp [arrayHeader, twoVolume, twoVolumeEn, paramBase, reg, h.regs, h.mode, h.vram]

/-- The header of primitive `k + 1` is that of primitive `k` seen from the next block (R256). -/
theorem arrayHeader_succ (s : State) (n o skip : Nat) (shadow : Bool) (k : Nat) :
    arrayHeader s n (nextBlock o skip (twoVolume s s.mode shadow) n) skip shadow k =
      arrayHeader s n o skip shadow (k + 1) := by
  have h : nextBlock o skip (twoVolume s s.mode shadow) n +
      k * (headerWords (twoVolume s s.mode shadow) + n * vstride skip (twoVolume s s.mode shadow)) =
      o + (k + 1) * (headerWords (twoVolume s s.mode shadow) + n * vstride skip (twoVolume s s.mode shadow)) := by
    unfold nextBlock
    ring
  unfold arrayHeader
  dsimp only
  rw [h]

/-- An array whose blocks are all ok completes (R255, R257). -/
theorem renderArray_completes {n skip : Nat} {shadow : Bool} : ∀ {count o : Nat} {s : State},
    s.mode ≠ .punchthroughMv → (∀ k < count, blockOk s.mode (arrayHeader s n o skip shadow k)) →
    ∃ t, renderArray n skip shadow count o s = .next t
  | 0, o, s, _, _ => ⟨s, rfl⟩
  | count + 1, o, s, hm, hb => by
    obtain ⟨u, hu⟩ := arrayPrimitive_completes (n := n) (o := o) (skip := skip) (shadow := shadow) hm
      (hb 0 (by omega))
    have hf := ((drawLaw_frame s.mode).arrayPrimitive hu rfl).1
    unfold renderArray
    rw [hu, andThen_next]
    apply renderArray_completes
    · rw [hf.mode]; exact hm
    · intro k hk
      rw [arrayHeader_frame hf, hf.mode, arrayHeader_succ]
      exact hb (k + 1) (by omega)

end Sys2Proof.Machine
end

