-- ==== Sys2Proof/Laws/Memory.lean ====
section
/-! SUPPORT. Sparse contents and VRAM: reads after writes, the canonical form, the address map. -/

namespace Sys2Proof.Machine

variable {w : Nat}

/-! ### Sparse contents -/

/-- A canonical list raises its lower bound down. -/
theorem sparseWf_mono {hi lo lo' : Nat} {m : List (Nat × BitVec w)} (h : lo' ≤ lo) (hm : sparseWf hi lo m = true) :
    sparseWf hi lo' m = true := by
  cases m with
  | nil => rfl
  | cons e rest =>
    simp only [sparseWf, Bool.and_eq_true, decide_eq_true_eq] at hm ⊢
    exact ⟨⟨⟨by omega, hm.1.1.2⟩, hm.1.2⟩, hm.2⟩

/-- Below the lower bound of a canonical list everything is 0. -/
theorem sparseGet_below {hi : Nat} : ∀ {m : List (Nat × BitVec w)} {lo a : Nat},
    sparseWf hi lo m = true → a < lo → sparseGet m a = 0
  | [], _, _, _, _ => rfl
  | (k, v) :: rest, lo, a, hm, ha => by
    simp only [sparseWf, Bool.and_eq_true, decide_eq_true_eq] at hm
    have hk : ¬ k = a := by omega
    simp only [sparseGet, hk, if_false]
    exact sparseGet_below hm.2 (by omega)

/-- At or above the upper bound of a canonical list everything is 0. -/
theorem sparseGet_above {hi : Nat} : ∀ {m : List (Nat × BitVec w)} {lo a : Nat},
    sparseWf hi lo m = true → hi ≤ a → sparseGet m a = 0
  | [], _, _, _, _ => rfl
  | (k, v) :: rest, lo, a, hm, ha => by
    simp only [sparseWf, Bool.and_eq_true, decide_eq_true_eq] at hm
    have hk : ¬ k = a := by omega
    simp only [sparseGet, hk, if_false]
    exact sparseGet_above hm.2 ha

/-- A write keeps the canonical form. -/
theorem sparseWf_set {hi : Nat} : ∀ {m : List (Nat × BitVec w)} {lo a : Nat} (v : BitVec w),
    sparseWf hi lo m = true → lo ≤ a → a < hi → sparseWf hi lo (sparseSet m a v) = true
  | [], lo, a, v, _, hl, hh => by
    unfold sparseSet
    split
    · rfl
    · rename_i hv
      simp only [sparseWf, Bool.and_eq_true, decide_eq_true_eq, bne_iff_ne, ne_eq]
      exact ⟨⟨⟨hl, hh⟩, hv⟩, trivial⟩
  | (k, u) :: rest, lo, a, v, hm, hl, hh => by
    have hm' := hm
    simp only [sparseWf, Bool.and_eq_true, decide_eq_true_eq, bne_iff_ne, ne_eq] at hm
    unfold sparseSet
    split
    · split
      · exact hm'
      · simp only [sparseWf, Bool.and_eq_true, decide_eq_true_eq, bne_iff_ne, ne_eq]
        refine ⟨⟨⟨hl, hh⟩, by assumption⟩, ⟨⟨by omega, hm.1.1.2⟩, hm.1.2⟩, hm.2⟩
    · split
      · split
        · exact sparseWf_mono (by omega) hm.2
        · simp only [sparseWf, Bool.and_eq_true, decide_eq_true_eq, bne_iff_ne, ne_eq]
          refine ⟨⟨⟨hl, hh⟩, by assumption⟩, sparseWf_mono (by omega) hm.2⟩
      · simp only [sparseWf, Bool.and_eq_true, decide_eq_true_eq, bne_iff_ne, ne_eq]
        exact ⟨⟨hm.1.1, hm.1.2⟩, sparseWf_set v hm.2 (by omega) hh⟩

/-- A read after a write, at the address written and at every other. -/
theorem sparseGet_set {hi : Nat} : ∀ {m : List (Nat × BitVec w)} {lo : Nat} (a b : Nat) (v : BitVec w),
    sparseWf hi lo m = true → sparseGet (sparseSet m a v) b = if b = a then v else sparseGet m b
  | [], lo, a, b, v, _ => by
    unfold sparseSet
    by_cases hb : b = a
    · split <;> simp_all [sparseGet]
    · have hab : ¬ a = b := fun e => hb e.symm
      split <;> simp_all [sparseGet]
  | (k, u) :: rest, lo, a, b, v, hm => by
    have hm' := hm
    simp only [sparseWf, Bool.and_eq_true, decide_eq_true_eq, bne_iff_ne, ne_eq] at hm
    unfold sparseSet
    by_cases h1 : a < k
    · simp only [h1, if_true]
      by_cases hv : v = 0
      · simp only [hv, if_true]
        by_cases hb : b = a
        · rw [if_pos hb]
          exact sparseGet_below (sparseWf_mono (lo' := k) (Nat.le_refl _) (by
            simp only [sparseWf, Bool.and_eq_true, decide_eq_true_eq, bne_iff_ne, ne_eq]
            exact ⟨⟨⟨Nat.le_refl _, hm.1.1.2⟩, hm.1.2⟩, hm.2⟩)) (by omega)
        · rw [if_neg hb]
      · simp only [hv, if_false]
        by_cases hb : b = a
        · simp [hb, sparseGet]
        · have hab : ¬ a = b := fun e => hb e.symm
          simp [hb, hab, sparseGet]
    · simp only [h1, if_false]
      by_cases h2 : a = k
      · subst h2
        simp only [if_true]
        by_cases hv : v = 0
        · simp only [hv, if_true]
          by_cases hb : b = a
          · rw [if_pos hb, hb]
            exact sparseGet_below hm.2 (by omega)
          · have hab : ¬ a = b := fun e => hb e.symm
            simp [hb, hab, sparseGet]
        · simp only [hv, if_false]
          by_cases hb : b = a
          · simp [hb, sparseGet]
          · have hab : ¬ a = b := fun e => hb e.symm
            simp [hb, hab, sparseGet]
      · simp only [h2, if_false]
        by_cases hk : k = b
        · have : ¬ b = a := by omega
          simp [sparseGet, hk, this]
        · simp only [sparseGet, hk, if_false]
          exact sparseGet_set a b v hm.2

/-- Canonical contents that read the same everywhere are the same data. -/
theorem sparse_ext {hi : Nat} : ∀ {m n : List (Nat × BitVec w)} {lo : Nat}, sparseWf hi lo m = true →
    sparseWf hi lo n = true → (∀ a, sparseGet m a = sparseGet n a) → m = n
  | [], [], _, _, _, _ => rfl
  | [], (k, v) :: rest, lo, _, hn, h => by
    simp only [sparseWf, Bool.and_eq_true, decide_eq_true_eq, bne_iff_ne, ne_eq] at hn
    have := h k
    simp only [sparseGet, if_true] at this
    exact absurd this.symm hn.1.2
  | (k, v) :: rest, [], lo, hm, _, h => by
    simp only [sparseWf, Bool.and_eq_true, decide_eq_true_eq, bne_iff_ne, ne_eq] at hm
    have := h k
    simp only [sparseGet, if_true] at this
    exact absurd this hm.1.2
  | (k, v) :: rest, (k', v') :: rest', lo, hm, hn, h => by
    simp only [sparseWf, Bool.and_eq_true, decide_eq_true_eq, bne_iff_ne, ne_eq] at hm hn
    rcases Nat.lt_trichotomy k k' with hlt | heq | hgt
    · have h1 := h k
      have hk : ¬ k' = k := by omega
      simp only [sparseGet, if_true, hk, if_false] at h1
      rw [sparseGet_below hn.2 (by omega)] at h1
      exact absurd h1 hm.1.2
    · subst heq
      have h1 := h k
      simp only [sparseGet, if_true] at h1
      subst h1
      congr 1
      apply sparse_ext hm.2 hn.2
      intro a
      by_cases ha : a < k + 1
      · rw [sparseGet_below hm.2 ha, sparseGet_below hn.2 ha]
      · have h2 := h a
        have hk : ¬ k = a := by omega
        simpa only [sparseGet, hk, if_false] using h2
    · have h1 := h k'
      have hk : ¬ k = k' := by omega
      simp only [sparseGet, if_true, hk, if_false] at h1
      rw [sparseGet_below hm.2 (by omega)] at h1
      exact absurd h1.symm hn.1.2

/-! ### VRAM -/

/-- A byte read after a byte write. -/
theorem Memory.read_write {m : List Host.Cell} (hm : Memory.wf m = true) (p q : Nat) (b : Byte) :
    Memory.read (Memory.write m p b) q = if q = p then b else Memory.read m q := sparseGet_set p q b hm

/-- A byte write keeps the canonical form. -/
theorem Memory.wf_write {m : List Host.Cell} (hm : Memory.wf m = true) {p : Nat} (hp : p < vramSize) (b : Byte) :
    Memory.wf (Memory.write m p b) = true := sparseWf_set b hm (Nat.zero_le _) hp

/-- The VRAM after reset is in the canonical form. -/
theorem Memory.wf_reset : Memory.wf State.reset.vram = true := rfl

/-- The register file after reset is in the canonical form. -/
theorem regsWf_reset : regsWf State.reset.regs = true := rfl

/-- The map keeps inside VRAM (R94). -/
theorem pvrMap32_lt {a : Nat} : pvrMap32 a < vramSize := by
  unfold pvrMap32 vramSize
  omega

/-- The map of an even address is even and leaves room for two bytes. -/
theorem physical_even {a : Nat} (h : a % 2 = 0) : physical a % 2 = 0 ∧ physical a + 1 < vramSize := by
  have hv : vramSize = 2 ^ 23 := rfl
  unfold physical pvrMap32
  rw [hv]
  omega

/-- The map of a word address is a word address. -/
theorem physical_word {a : Nat} (h : a % 4 = 0) : physical a % 4 = 0 ∧ physical a + 3 < vramSize := by
  have hv : vramSize = 2 ^ 23 := rfl
  unfold physical pvrMap32
  rw [hv]
  omega

/-- A 16-bit store at an even address keeps the canonical form. -/
theorem Memory.wf_store16 {m : List Host.Cell} (hm : Memory.wf m = true) {a : Nat} (h : a % 2 = 0) (v : Half) :
    Memory.wf (store16 m a v) = true := by
  have hp := physical_even h
  exact wf_write (wf_write hm (by omega) _) hp.2 _

/-- A 32-bit store at a word address keeps the canonical form. -/
theorem Memory.wf_store32 {m : List Host.Cell} (hm : Memory.wf m = true) {a : Nat} (h : a % 4 = 0) (v : Word) :
    Memory.wf (store32 m a v) = true := by
  have hp := physical_word h
  unfold store32
  exact wf_write (wf_write (wf_write (wf_write hm (by omega) _) (by omega) _) (by omega) _) hp.2 _

/-- What every byte is after a 16-bit store (R97). -/
theorem Memory.read_store16 {m : List Host.Cell} (hm : Memory.wf m = true) {a : Nat} (h : a % 2 = 0) (v : Half)
    (q : Nat) : Memory.read (store16 m a v) q =
      if q = physical a + 1 then BitVec.ofNat 8 (v.toNat / 2 ^ 8)
      else if q = physical a then BitVec.ofNat 8 v.toNat else Memory.read m q := by
  have hp := physical_even h
  unfold store16
  rw [read_write (wf_write hm (by omega) _), read_write hm]

/-- What every byte is after a 32-bit store (R97). -/
theorem Memory.read_store32 {m : List Host.Cell} (hm : Memory.wf m = true) {a : Nat} (h : a % 4 = 0) (v : Word)
    (q : Nat) : Memory.read (store32 m a v) q =
      if q = physical a + 3 then byteOfWord v 3
      else if q = physical a + 2 then byteOfWord v 2
      else if q = physical a + 1 then byteOfWord v 1
      else if q = physical a then byteOfWord v 0 else Memory.read m q := by
  have hp := physical_word h
  unfold store32
  rw [read_write (wf_write (wf_write (wf_write hm (by omega) _) (by omega) _) (by omega) _),
    read_write (wf_write (wf_write hm (by omega) _) (by omega) _), read_write (wf_write hm (by omega) _),
    read_write hm]

/-- The bytes of a word make the word (R99). -/
theorem wordOfBytes_byteOfWord (v : Word) :
    wordOfBytes (byteOfWord v 0) (byteOfWord v 1) (byteOfWord v 2) (byteOfWord v 3) = v := by
  apply BitVec.eq_of_toNat_eq
  simp only [wordOfBytes, byteOfWord, BitVec.toNat_ofNat]
  have := v.isLt
  omega

end Sys2Proof.Machine
end

