-- ==== Sys2Proof/Laws/PerInstr.lean ====
section
/-! SUPPORT. The family `Encoding`: one lemma per constructor of `Instr`. The fields of a well-formed instruction fit
the 32 bits of its word (rule R169), so the encoder loses none of them. -/

namespace Sys2Proof.Laws

/-- The number of a well-formed instruction fits a word (R169). -/
def Encoding.Statement (i : Instr) : Prop := i.wellFormed = true → encodeNat i < 2 ^ 32

theorem Encoding.region (tilex tiley : Nat) (noWriteout preSort zKeep lastRegion : Bool) :
    Encoding.Statement (.region tilex tiley noWriteout preSort zKeep lastRegion) := by
  intro h
  simp only [Instr.wellFormed, Bool.and_eq_true, decide_eq_true_eq] at h
  simp only [encodeNat, flagAt]
  split_ifs <;> omega

theorem Encoding.ptr (ptrInWords : Nat) :
    Encoding.Statement (.ptr ptrInWords) := by
  intro h
  simp only [Instr.wellFormed, decide_eq_true_eq] at h
  simp only [encodeNat]
  omega

theorem Encoding.ptrEmpty (ptrInWords : Nat) :
    Encoding.Statement (.ptrEmpty ptrInWords) := by
  intro h
  simp only [Instr.wellFormed, decide_eq_true_eq] at h
  simp only [encodeNat]
  omega

theorem Encoding.strip (offs skip : Nat) (shadow : Bool) (mask : Nat) :
    Encoding.Statement (.strip offs skip shadow mask) := by
  intro h
  simp only [Instr.wellFormed, Bool.and_eq_true, decide_eq_true_eq] at h
  simp only [encodeNat, flagAt]
  split_ifs <;> omega

theorem Encoding.tarray (offs skip : Nat) (shadow : Bool) (prims : Nat) :
    Encoding.Statement (.tarray offs skip shadow prims) := by
  intro h
  simp only [Instr.wellFormed, Bool.and_eq_true, decide_eq_true_eq] at h
  simp only [encodeNat, flagAt]
  split_ifs <;> omega

theorem Encoding.qarray (offs skip : Nat) (shadow : Bool) (prims : Nat) :
    Encoding.Statement (.qarray offs skip shadow prims) := by
  intro h
  simp only [Instr.wellFormed, Bool.and_eq_true, decide_eq_true_eq] at h
  simp only [encodeNat, flagAt]
  split_ifs <;> omega

theorem Encoding.reserved110 (low : Nat) :
    Encoding.Statement (.reserved110 low) := by
  intro h
  simp only [Instr.wellFormed, decide_eq_true_eq] at h
  simp only [encodeNat]
  omega

theorem Encoding.link (nextInWords : Nat) :
    Encoding.Statement (.link nextInWords) := by
  intro h
  simp only [Instr.wellFormed, decide_eq_true_eq] at h
  simp only [encodeNat]
  omega

theorem Encoding.linkEnd (nextInWords : Nat) :
    Encoding.Statement (.linkEnd nextInWords) := by
  intro h
  simp only [Instr.wellFormed, decide_eq_true_eq] at h
  simp only [encodeNat]
  omega

theorem Encoding.depthNever : Encoding.Statement .depthNever := fun _ => by decide
theorem Encoding.depthLess : Encoding.Statement .depthLess := fun _ => by decide
theorem Encoding.depthEqual : Encoding.Statement .depthEqual := fun _ => by decide
theorem Encoding.depthLessequal : Encoding.Statement .depthLessequal := fun _ => by decide
theorem Encoding.depthGreater : Encoding.Statement .depthGreater := fun _ => by decide
theorem Encoding.depthNotequal : Encoding.Statement .depthNotequal := fun _ => by decide
theorem Encoding.depthGreaterequal : Encoding.Statement .depthGreaterequal := fun _ => by decide
theorem Encoding.depthAlways : Encoding.Statement .depthAlways := fun _ => by decide
theorem Encoding.cullNone : Encoding.Statement .cullNone := fun _ => by decide
theorem Encoding.cullSmall : Encoding.Statement .cullSmall := fun _ => by decide
theorem Encoding.cullNegative : Encoding.Statement .cullNegative := fun _ => by decide
theorem Encoding.cullPositive : Encoding.Statement .cullPositive := fun _ => by decide

theorem Encoding.volNone (cull : Nat) :
    Encoding.Statement (.volNone cull) := by
  intro h
  simp only [Instr.wellFormed, decide_eq_true_eq] at h
  simp only [encodeNat]
  omega

theorem Encoding.volOr (cull : Nat) :
    Encoding.Statement (.volOr cull) := by
  intro h
  simp only [Instr.wellFormed, decide_eq_true_eq] at h
  simp only [encodeNat]
  omega

theorem Encoding.volAnd (cull : Nat) :
    Encoding.Statement (.volAnd cull) := by
  intro h
  simp only [Instr.wellFormed, decide_eq_true_eq] at h
  simp only [encodeNat]
  omega

theorem Encoding.volReserved3 : Encoding.Statement .volReserved3 := fun _ => by decide
theorem Encoding.volReserved4 : Encoding.Statement .volReserved4 := fun _ => by decide
theorem Encoding.volReserved5 : Encoding.Statement .volReserved5 := fun _ => by decide
theorem Encoding.volReserved6 : Encoding.Statement .volReserved6 := fun _ => by decide
theorem Encoding.volReserved7 : Encoding.Statement .volReserved7 := fun _ => by decide
theorem Encoding.srcZero : Encoding.Statement .srcZero := fun _ => by decide
theorem Encoding.srcOne : Encoding.Statement .srcOne := fun _ => by decide
theorem Encoding.srcOther : Encoding.Statement .srcOther := fun _ => by decide
theorem Encoding.srcInvother : Encoding.Statement .srcInvother := fun _ => by decide
theorem Encoding.srcSrcalpha : Encoding.Statement .srcSrcalpha := fun _ => by decide
theorem Encoding.srcInvsrcalpha : Encoding.Statement .srcInvsrcalpha := fun _ => by decide
theorem Encoding.srcDstalpha : Encoding.Statement .srcDstalpha := fun _ => by decide
theorem Encoding.srcInvdstalpha : Encoding.Statement .srcInvdstalpha := fun _ => by decide
theorem Encoding.dstZero : Encoding.Statement .dstZero := fun _ => by decide
theorem Encoding.dstOne : Encoding.Statement .dstOne := fun _ => by decide
theorem Encoding.dstOther : Encoding.Statement .dstOther := fun _ => by decide
theorem Encoding.dstInvother : Encoding.Statement .dstInvother := fun _ => by decide
theorem Encoding.dstSrcalpha : Encoding.Statement .dstSrcalpha := fun _ => by decide
theorem Encoding.dstInvsrcalpha : Encoding.Statement .dstInvsrcalpha := fun _ => by decide
theorem Encoding.dstDstalpha : Encoding.Statement .dstDstalpha := fun _ => by decide
theorem Encoding.dstInvdstalpha : Encoding.Statement .dstInvdstalpha := fun _ => by decide
theorem Encoding.fogTable : Encoding.Statement .fogTable := fun _ => by decide
theorem Encoding.fogVertex : Encoding.Statement .fogVertex := fun _ => by decide
theorem Encoding.fogNone : Encoding.Statement .fogNone := fun _ => by decide
theorem Encoding.fogTablealpha : Encoding.Statement .fogTablealpha := fun _ => by decide
theorem Encoding.filterPoint : Encoding.Statement .filterPoint := fun _ => by decide
theorem Encoding.filterBilinear1 : Encoding.Statement .filterBilinear1 := fun _ => by decide
theorem Encoding.filterBilinear2 : Encoding.Statement .filterBilinear2 := fun _ => by decide
theorem Encoding.filterBilinear3 : Encoding.Statement .filterBilinear3 := fun _ => by decide
theorem Encoding.shadDecal : Encoding.Statement .shadDecal := fun _ => by decide
theorem Encoding.shadModulate : Encoding.Statement .shadModulate := fun _ => by decide
theorem Encoding.shadDecalalpha : Encoding.Statement .shadDecalalpha := fun _ => by decide
theorem Encoding.shadModulatealpha : Encoding.Statement .shadModulatealpha := fun _ => by decide

theorem Encoding.fmtArgb1555 (addr : Nat) :
    Encoding.Statement (.fmtArgb1555 addr) := by
  intro h
  simp only [Instr.wellFormed, decide_eq_true_eq] at h
  simp only [encodeNat]
  omega

theorem Encoding.fmtRgb565 (addr : Nat) :
    Encoding.Statement (.fmtRgb565 addr) := by
  intro h
  simp only [Instr.wellFormed, decide_eq_true_eq] at h
  simp only [encodeNat]
  omega

theorem Encoding.fmtArgb4444 (addr : Nat) :
    Encoding.Statement (.fmtArgb4444 addr) := by
  intro h
  simp only [Instr.wellFormed, decide_eq_true_eq] at h
  simp only [encodeNat]
  omega

theorem Encoding.fmtYuv422 (addr : Nat) :
    Encoding.Statement (.fmtYuv422 addr) := by
  intro h
  simp only [Instr.wellFormed, decide_eq_true_eq] at h
  simp only [encodeNat]
  omega

theorem Encoding.fmtBump (addr : Nat) :
    Encoding.Statement (.fmtBump addr) := by
  intro h
  simp only [Instr.wellFormed, decide_eq_true_eq] at h
  simp only [encodeNat]
  omega

theorem Encoding.fmtPal4 (sel addr : Nat) :
    Encoding.Statement (.fmtPal4 sel addr) := by
  intro h
  simp only [Instr.wellFormed, Bool.and_eq_true, decide_eq_true_eq] at h
  simp only [encodeNat]
  omega

theorem Encoding.fmtPal8 (sel addr : Nat) :
    Encoding.Statement (.fmtPal8 sel addr) := by
  intro h
  simp only [Instr.wellFormed, Bool.and_eq_true, decide_eq_true_eq] at h
  simp only [encodeNat]
  omega

theorem Encoding.fmtReserved7 (addr : Nat) :
    Encoding.Statement (.fmtReserved7 addr) := by
  intro h
  simp only [Instr.wellFormed, decide_eq_true_eq] at h
  simp only [encodeNat]
  omega

theorem Encoding.tcwVq : Encoding.Statement .tcwVq := fun _ => by decide
theorem Encoding.tcwTwiddled : Encoding.Statement .tcwTwiddled := fun _ => by decide
theorem Encoding.tcwStrideScan (sel : Bool) : Encoding.Statement (.tcwStrideScan sel) := fun _ => by cases sel <;> decide
theorem Encoding.tcwMipmapped : Encoding.Statement .tcwMipmapped := fun _ => by decide
theorem Encoding.palArgb1555 : Encoding.Statement .palArgb1555 := fun _ => by decide
theorem Encoding.palRgb565 : Encoding.Statement .palRgb565 := fun _ => by decide
theorem Encoding.palArgb4444 : Encoding.Statement .palArgb4444 := fun _ => by decide
theorem Encoding.palArgb8888 : Encoding.Statement .palArgb8888 := fun _ => by decide
theorem Encoding.pack0Unsupported : Encoding.Statement .pack0Unsupported := fun _ => by decide
theorem Encoding.pack1Rgb565 : Encoding.Statement .pack1Rgb565 := fun _ => by decide
theorem Encoding.pack2Unsupported : Encoding.Statement .pack2Unsupported := fun _ => by decide
theorem Encoding.pack3Unsupported : Encoding.Statement .pack3Unsupported := fun _ => by decide
theorem Encoding.pack4Unsupported : Encoding.Statement .pack4Unsupported := fun _ => by decide
theorem Encoding.pack5Unsupported : Encoding.Statement .pack5Unsupported := fun _ => by decide
theorem Encoding.pack6Argb8888 : Encoding.Statement .pack6Argb8888 := fun _ => by decide
theorem Encoding.pack7Unsupported : Encoding.Statement .pack7Unsupported := fun _ => by decide

end Sys2Proof.Laws
end

