-- ==== Sys2Proof/Laws/Writeback.lean ====
section
/-! SUPPORT. What the writeback can do (45_writeback.md): each pixel's write changes VRAM and the errors only and keeps
VRAM canonical, so the last pixel's bytes stand in VRAM at the end. -/

namespace Sys2Proof.Machine

/-- `t` differs from `s` in VRAM and the errors only. -/
def OnlyWrites (s t : State) : Prop := t = { s with vram := t.vram, errors := t.errors }

theorem OnlyWrites.refl (s : State) : OnlyWrites s s := rfl

theorem OnlyWrites.trans {s t u : State} (h : OnlyWrites s t) (k : OnlyWrites t u) : OnlyWrites s u := by
  unfold OnlyWrites at *
  rw [k, h]

theorem onlyWrites_touch (a : Nat) (s : State) : OnlyWrites s (touch a s) := by
  unfold touch
  split <;> rfl

theorem onlyWrites_write16 (a : Nat) (v : Half) (s : State) : OnlyWrites s (write16 a v s) :=
  OnlyWrites.trans (t := { s with vram := store16 s.vram a v }) rfl (onlyWrites_touch a _)

theorem onlyWrites_write32 (a : Nat) (v : Word) (s : State) : OnlyWrites s (write32 a v s) :=
  OnlyWrites.trans (t := { s with vram := store32 s.vram a v }) rfl (onlyWrites_touch a _)

/-- An access leaves VRAM alone. -/
@[simp] theorem touch_vram (a : Nat) (s : State) : (touch a s).vram = s.vram := by
  unfold touch
  split <;> rfl

@[simp] theorem write16_vram (a : Nat) (v : Half) (s : State) : (write16 a v s).vram = store16 s.vram a v := by
  simp [write16]

@[simp] theorem write32_vram (a : Nat) (v : Word) (s : State) : (write32 a v s).vram = store32 s.vram a v := by
  simp [write32]

/-- A 16-bit pixel's address is even (R500, R100). -/
theorem pixelAddress_even (s : State) (i : Fin 1024) : pixelAddress s 2 i % 2 = 0 := by
  unfold pixelAddress frameStart strideBytes
  rw [← Nat.mul_assoc]
  omega

/-- A 32-bit pixel's address is a word address (R500, R100). -/
theorem pixelAddress_word (s : State) (i : Fin 1024) : pixelAddress s 4 i % 4 = 0 := by
  unfold pixelAddress frameStart strideBytes
  rw [← Nat.mul_assoc]
  omega

/-- The pixel writes of a writeback, of any pixels in any order (R510). -/
theorem writePixels8888 (l : List (Fin 1024)) (s : State) (h : Memory.wf s.vram = true) :
    OnlyWrites s (l.foldl (fun t i => writePixel8888 i t) s) ∧
      Memory.wf (l.foldl (fun t i => writePixel8888 i t) s).vram = true := by
  induction l generalizing s with
  | nil => exact ⟨OnlyWrites.refl s, h⟩
  | cons i l ih =>
    have hw : Memory.wf (writePixel8888 i s).vram = true := by
      unfold writePixel8888
      rw [write32_vram]
      exact Memory.wf_store32 h (pixelAddress_word s i) _
    exact ⟨(onlyWrites_write32 _ _ s).trans (ih _ hw).1, (ih _ hw).2⟩

/-- The pixel writes of a writeback in pack mode 1. -/
theorem writePixels565 (l : List (Fin 1024)) (s : State) (h : Memory.wf s.vram = true) :
    OnlyWrites s (l.foldl (fun t i => writePixel565 i t) s) ∧
      Memory.wf (l.foldl (fun t i => writePixel565 i t) s).vram = true := by
  induction l generalizing s with
  | nil => exact ⟨OnlyWrites.refl s, h⟩
  | cons i l ih =>
    have hw : Memory.wf (writePixel565 i s).vram = true := by
      unfold writePixel565
      rw [write16_vram]
      exact Memory.wf_store16 h (pixelAddress_even s i) _
    exact ⟨(onlyWrites_write16 _ _ s).trans (ih _ hw).1, (ih _ hw).2⟩

/-- A pixel's colour and address are those before the writes. -/
theorem OnlyWrites.pixel_eq {s t : State} (h : OnlyWrites s t) (i : Fin 1024) : pixel t i = pixel s i := by
  rw [h]
  rfl

theorem OnlyWrites.pixelAddress_eq {s t : State} (h : OnlyWrites s t) (bpp : Nat) (i : Fin 1024) :
    pixelAddress t bpp i = pixelAddress s bpp i := by
  rw [h]
  rfl

/-- The last pixel's word stands in VRAM after the writeback (R505, R510). -/
theorem writeback8888_last (s : State) (h : Memory.wf s.vram = true) :
    word32 (writeback8888 s).vram (pixelAddress s 4 1023) = pack8888 (pixel s 1023).accum := by
  have hl : allPixels = (List.finRange 1023).map Fin.castSucc ++ [1023] := List.finRange_succ_last
  have k := writePixels8888 ((List.finRange 1023).map Fin.castSucc) s h
  unfold writeback8888
  rw [hl, List.foldl_append]
  generalize ((List.finRange 1023).map Fin.castSucc).foldl (fun t i => writePixel8888 i t) s = u at k
  simp only [List.foldl_cons, List.foldl_nil, writePixel8888, write32_vram, k.1.pixel_eq, k.1.pixelAddress_eq]
  have ha := pixelAddress_word s 1023
  unfold word32
  simp only [Memory.read_store32 k.2 ha]
  simp [wordOfBytes_byteOfWord]

/-- At the writeback a supported pack code writes the tile and ends the entry (R231, R501). -/
theorem supportedPack_writeback {s : State} (h : s.ctl = .writeback) (write : State → State) :
    supportedPack write s = { write s with ctl := .entryEnd } := by
  simp [supportedPack, h]

/-- What a supported pack code leaves in VRAM at the writeback is what its writes leave. `write` stays a variable here:
unfolding the 1024 writes of a concrete one is costly. -/
theorem word32_supportedPack {s : State} {w : Word} {a : Nat} (write : State → State) (hc : s.ctl = .writeback)
    (h : word32 (write s).vram a = w) : word32 (supportedPack write s).vram a = w := by
  rw [supportedPack_writeback hc]
  exact h

/-- The whole writeback in pack mode 6 leaves the last pixel's word. -/
theorem exec_pack6_last (s : State) (hc : s.ctl = .writeback) (h : Memory.wf s.vram = true) :
    ∃ t, exec .pack6Argb8888 s = .next t ∧
      word32 t.vram (pixelAddress s 4 1023) = pack8888 (pixel s 1023).accum :=
  ⟨supportedPack writeback8888 s, rfl, word32_supportedPack _ hc (writeback8888_last s h)⟩

end Sys2Proof.Machine
end

