-- ==== Sys2Proof/Tests/Slice0.lean ====
section
/-! SUPPORT. Tests: ill-formed terms, decoding of words written out from the spec's encodings, single steps with the
results of the spec's vectors (95_test_vectors.md), and a witness that the hypotheses of each statement can be met. -/

namespace Sys2Proof.Tests

-- The theorems are checked one after another: checked all at once their threads need more memory than the sandbox has.
set_option Elab.async false

open Sys2Proof.Machine

/-! ### Ill-formed terms: one field too wide for its word each -/

theorem test_illformed_region_tilex : Instr.wellFormed (.region 64 0 false false false false) = false := by decide
theorem test_illformed_region_tiley : Instr.wellFormed (.region 0 64 false false false false) = false := by decide
theorem test_illformed_ptr : Instr.wellFormed (.ptr 0x400000) = false := by decide
theorem test_illformed_ptrEmpty : Instr.wellFormed (.ptrEmpty 0x400000) = false := by decide
theorem test_illformed_strip_offs : Instr.wellFormed (.strip 0x200000 0 false 0) = false := by decide
theorem test_illformed_strip_skip : Instr.wellFormed (.strip 0 8 false 0) = false := by decide
theorem test_illformed_strip_mask : Instr.wellFormed (.strip 0 0 false 64) = false := by decide
theorem test_illformed_tarray_offs : Instr.wellFormed (.tarray 0x200000 0 false 0) = false := by decide
theorem test_illformed_tarray_skip : Instr.wellFormed (.tarray 0 8 false 0) = false := by decide
theorem test_illformed_tarray_prims : Instr.wellFormed (.tarray 0 0 false 16) = false := by decide
theorem test_illformed_qarray_offs : Instr.wellFormed (.qarray 0x200000 0 false 0) = false := by decide
theorem test_illformed_qarray_skip : Instr.wellFormed (.qarray 0 8 false 0) = false := by decide
theorem test_illformed_qarray_prims : Instr.wellFormed (.qarray 0 0 false 16) = false := by decide
theorem test_illformed_reserved110 : Instr.wellFormed (.reserved110 0x20000000) = false := by decide
theorem test_illformed_link : Instr.wellFormed (.link 0x400000) = false := by decide
theorem test_illformed_linkEnd : Instr.wellFormed (.linkEnd 0x400000) = false := by decide
theorem test_illformed_volNone : Instr.wellFormed (.volNone 4) = false := by decide
theorem test_illformed_volOr : Instr.wellFormed (.volOr 4) = false := by decide
theorem test_illformed_volAnd : Instr.wellFormed (.volAnd 4) = false := by decide
theorem test_illformed_fmtArgb1555 : Instr.wellFormed (.fmtArgb1555 0x200000) = false := by decide
theorem test_illformed_fmtRgb565 : Instr.wellFormed (.fmtRgb565 0x200000) = false := by decide
theorem test_illformed_fmtArgb4444 : Instr.wellFormed (.fmtArgb4444 0x200000) = false := by decide
theorem test_illformed_fmtYuv422 : Instr.wellFormed (.fmtYuv422 0x200000) = false := by decide
theorem test_illformed_fmtBump : Instr.wellFormed (.fmtBump 0x200000) = false := by decide
theorem test_illformed_fmtPal4_sel : Instr.wellFormed (.fmtPal4 64 0) = false := by decide
theorem test_illformed_fmtPal4_addr : Instr.wellFormed (.fmtPal4 0 0x200000) = false := by decide
theorem test_illformed_fmtPal8_sel : Instr.wellFormed (.fmtPal8 64 0) = false := by decide
theorem test_illformed_fmtPal8_addr : Instr.wellFormed (.fmtPal8 0 0x200000) = false := by decide
theorem test_illformed_fmtReserved7 : Instr.wellFormed (.fmtReserved7 0x200000) = false := by decide

theorem test_decode_truncated : decodeBytes .objectList [0, 0, 0] = .error .truncated := by decide
theorem test_decode_vq_clear : decode .vqComp 0 = .error .vqCompClear := by decide
theorem test_decode_mipmap_clear : decode .mipMapped 0 = .error .mipMappedClear := by decide

/-! ### Decoding: a word of every constructor, written bit by bit (30_encoding.md) -/

theorem test_decode_region :
    decode .regionControl 0b1_0_0_1_00000000000000_001010_000011_00 = .ok (.region 3 10 true false false true) := by
  decide
theorem test_decode_ptr : decode .listPointer 0b0_1111111_0001000000000001000000_11 = .ok (.ptr 0x40040) := by decide
theorem test_decode_ptrEmpty :
    decode .listPointer 0b1_0000000_0001000000000001000000_00 = .ok (.ptrEmpty 0x40040) := by decide
theorem test_decode_strip :
    decode .objectList 0b0_000101_0_001_000000000010000000000 = .ok (.strip 0x400 1 false 0b000101) := by decide
theorem test_decode_tarray :
    decode .objectList 0b100_0001_0_000_000000000100000000000 = .ok (.tarray 0x800 0 false 1) := by decide
theorem test_decode_qarray :
    decode .objectList 0b101_0000_1_001_000000000010000000000 = .ok (.qarray 0x400 1 true 0) := by decide
theorem test_decode_reserved110 :
    decode .objectList 0b110_00000000000000000000000000101 = .ok (.reserved110 5) := by decide
theorem test_decode_link :
    decode .objectList 0b111_0_0000_0000010000000000000000_00 = .ok (.link 0x10000) := by decide
theorem test_decode_linkEnd :
    decode .objectList 0b111_1_0000_0000000000000000000000_00 = .ok (.linkEnd 0) := by decide
theorem test_decode_depthNever : decode .depthMode 0b000_00_100000000000000000000000000 = .ok .depthNever := by decide
theorem test_decode_depthLess : decode .depthMode 0b001_00_100000000000000000000000000 = .ok .depthLess := by decide
theorem test_decode_depthEqual : decode .depthMode 0b010_00_100000000000000000000000000 = .ok .depthEqual := by decide
theorem test_decode_depthLessequal :
    decode .depthMode 0b011_00_100000000000000000000000000 = .ok .depthLessequal := by decide
theorem test_decode_depthGreater :
    decode .depthMode 0b100_00_100000000000000000000000000 = .ok .depthGreater := by decide
theorem test_decode_depthNotequal :
    decode .depthMode 0b101_00_100000000000000000000000000 = .ok .depthNotequal := by decide
theorem test_decode_depthGreaterequal :
    decode .depthMode 0b110_00_100000000000000000000000000 = .ok .depthGreaterequal := by decide
theorem test_decode_depthAlways :
    decode .depthMode 0b111_00_100000000000000000000000000 = .ok .depthAlways := by decide
theorem test_decode_cullNone : decode .cullMode 0b111_00_000000000000000000000000000 = .ok .cullNone := by decide
theorem test_decode_cullSmall : decode .cullMode 0b111_01_000000000000000000000000000 = .ok .cullSmall := by decide
theorem test_decode_cullNegative :
    decode .cullMode 0b111_10_000000000000000000000000000 = .ok .cullNegative := by decide
theorem test_decode_cullPositive :
    decode .cullMode 0b111_11_000000000000000000000000000 = .ok .cullPositive := by decide
theorem test_decode_volNone : decode .volumeMode 0b000_10_000000000000000000000000000 = .ok (.volNone 2) := by decide
theorem test_decode_volOr : decode .volumeMode 0b001_10_000000000000000000000000000 = .ok (.volOr 2) := by decide
theorem test_decode_volAnd : decode .volumeMode 0b010_10_000000000000000000000000000 = .ok (.volAnd 2) := by decide
theorem test_decode_volReserved3 :
    decode .volumeMode 0b011_10_000000000000000000000000000 = .ok .volReserved3 := by decide
theorem test_decode_volReserved4 :
    decode .volumeMode 0b100_10_000000000000000000000000000 = .ok .volReserved4 := by decide
theorem test_decode_volReserved5 :
    decode .volumeMode 0b101_10_000000000000000000000000000 = .ok .volReserved5 := by decide
theorem test_decode_volReserved6 :
    decode .volumeMode 0b110_10_000000000000000000000000000 = .ok .volReserved6 := by decide
theorem test_decode_volReserved7 :
    decode .volumeMode 0b111_10_000000000000000000000000000 = .ok .volReserved7 := by decide
theorem test_decode_srcZero : decode .srcInstr 0b000_101_00100100000000000000000000 = .ok .srcZero := by decide
theorem test_decode_srcOne : decode .srcInstr 0b001_101_00100100000000000000000000 = .ok .srcOne := by decide
theorem test_decode_srcOther : decode .srcInstr 0b010_101_00100100000000000000000000 = .ok .srcOther := by decide
theorem test_decode_srcInvother :
    decode .srcInstr 0b011_101_00100100000000000000000000 = .ok .srcInvother := by decide
theorem test_decode_srcSrcalpha :
    decode .srcInstr 0b100_101_00100100000000000000000000 = .ok .srcSrcalpha := by decide
theorem test_decode_srcInvsrcalpha :
    decode .srcInstr 0b101_101_00100100000000000000000000 = .ok .srcInvsrcalpha := by decide
theorem test_decode_srcDstalpha :
    decode .srcInstr 0b110_101_00100100000000000000000000 = .ok .srcDstalpha := by decide
theorem test_decode_srcInvdstalpha :
    decode .srcInstr 0b111_101_00100100000000000000000000 = .ok .srcInvdstalpha := by decide
theorem test_decode_dstZero : decode .dstInstr 0b100_000_00100100000000000000000000 = .ok .dstZero := by decide
theorem test_decode_dstOne : decode .dstInstr 0b100_001_00100100000000000000000000 = .ok .dstOne := by decide
theorem test_decode_dstOther : decode .dstInstr 0b100_010_00100100000000000000000000 = .ok .dstOther := by decide
theorem test_decode_dstInvother :
    decode .dstInstr 0b100_011_00100100000000000000000000 = .ok .dstInvother := by decide
theorem test_decode_dstSrcalpha :
    decode .dstInstr 0b100_100_00100100000000000000000000 = .ok .dstSrcalpha := by decide
theorem test_decode_dstInvsrcalpha :
    decode .dstInstr 0b100_101_00100100000000000000000000 = .ok .dstInvsrcalpha := by decide
theorem test_decode_dstDstalpha :
    decode .dstInstr 0b100_110_00100100000000000000000000 = .ok .dstDstalpha := by decide
theorem test_decode_dstInvdstalpha :
    decode .dstInstr 0b100_111_00100100000000000000000000 = .ok .dstInvdstalpha := by decide
theorem test_decode_fogTable : decode .fogCtrl 0b100_101_00_00_0100000000000000000000 = .ok .fogTable := by decide
theorem test_decode_fogVertex : decode .fogCtrl 0b100_101_00_01_0100000000000000000000 = .ok .fogVertex := by decide
theorem test_decode_fogNone : decode .fogCtrl 0b100_101_00_10_0100000000000000000000 = .ok .fogNone := by decide
theorem test_decode_fogTablealpha :
    decode .fogCtrl 0b100_101_00_11_0100000000000000000000 = .ok .fogTablealpha := by decide
theorem test_decode_filterPoint :
    decode .filterMode 0b00100000100000000_00_0000000010010 = .ok .filterPoint := by decide
theorem test_decode_filterBilinear1 :
    decode .filterMode 0b00100000100000000_01_0000000010010 = .ok .filterBilinear1 := by decide
theorem test_decode_filterBilinear2 :
    decode .filterMode 0b00100000100000000_10_0000000010010 = .ok .filterBilinear2 := by decide
theorem test_decode_filterBilinear3 :
    decode .filterMode 0b00100000100000000_11_0000000010010 = .ok .filterBilinear3 := by decide
theorem test_decode_shadDecal : decode .shadInstr 0b001000001000000000000000_00_010010 = .ok .shadDecal := by decide
theorem test_decode_shadModulate :
    decode .shadInstr 0b001000001000000000000000_01_010010 = .ok .shadModulate := by decide
theorem test_decode_shadDecalalpha :
    decode .shadInstr 0b001000001000000000000000_10_010010 = .ok .shadDecalalpha := by decide
theorem test_decode_shadModulatealpha :
    decode .shadInstr 0b001000001000000000000000_11_010010 = .ok .shadModulatealpha := by decide
theorem test_decode_fmtArgb1555 :
    decode .pixelFmt 0b0_0_000_110101_001100000000000000000 = .ok (.fmtArgb1555 0x60000) := by decide
theorem test_decode_fmtRgb565 :
    decode .pixelFmt 0b0_0_001_110101_001100000000000000000 = .ok (.fmtRgb565 0x60000) := by decide
theorem test_decode_fmtArgb4444 :
    decode .pixelFmt 0b0_0_010_110101_001100000000000000000 = .ok (.fmtArgb4444 0x60000) := by decide
theorem test_decode_fmtYuv422 :
    decode .pixelFmt 0b0_0_011_110101_001100000000000000000 = .ok (.fmtYuv422 0x60000) := by decide
theorem test_decode_fmtBump :
    decode .pixelFmt 0b0_0_100_110101_001100000000000000000 = .ok (.fmtBump 0x60000) := by decide
theorem test_decode_fmtPal4 :
    decode .pixelFmt 0b0_0_101_110101_001100000000000000000 = .ok (.fmtPal4 0x35 0x60000) := by decide
theorem test_decode_fmtPal8 :
    decode .pixelFmt 0b0_0_110_110101_001100000000000000000 = .ok (.fmtPal8 0x35 0x60000) := by decide
theorem test_decode_fmtReserved7 :
    decode .pixelFmt 0b0_0_111_110101_001100000000000000000 = .ok (.fmtReserved7 0x60000) := by decide
theorem test_decode_tcwVq : decode .vqComp 0b0_1_000_000000_000000000000000000000 = .ok .tcwVq := by decide
theorem test_decode_tcwTwiddled :
    decode .scanOrder 0b0_0_000_0_1_0000_001100000000000000000 = .ok .tcwTwiddled := by decide
theorem test_decode_tcwStrideScan :
    decode .scanOrder 0b0_0_000_1_1_0000_001100000000000000000 = .ok (.tcwStrideScan true) := by decide
theorem test_decode_tcwMipmapped :
    decode .mipMapped 0b1_0_000_000000_001100000000000000000 = .ok .tcwMipmapped := by decide
theorem test_decode_palArgb1555 : decode .palRamCtrl 0b00 = .ok .palArgb1555 := by decide
theorem test_decode_palRgb565 : decode .palRamCtrl 0b01 = .ok .palRgb565 := by decide
theorem test_decode_palArgb4444 : decode .palRamCtrl 0b10 = .ok .palArgb4444 := by decide
theorem test_decode_palArgb8888 : decode .palRamCtrl 0b11 = .ok .palArgb8888 := by decide
theorem test_decode_pack0Unsupported : decode .fbPackmode 0b1000_000 = .ok .pack0Unsupported := by decide
theorem test_decode_pack1Rgb565 : decode .fbPackmode 0b1000_001 = .ok .pack1Rgb565 := by decide
theorem test_decode_pack2Unsupported : decode .fbPackmode 0b1000_010 = .ok .pack2Unsupported := by decide
theorem test_decode_pack3Unsupported : decode .fbPackmode 0b1000_011 = .ok .pack3Unsupported := by decide
theorem test_decode_pack4Unsupported : decode .fbPackmode 0b1000_100 = .ok .pack4Unsupported := by decide
theorem test_decode_pack5Unsupported : decode .fbPackmode 0b1000_101 = .ok .pack5Unsupported := by decide
theorem test_decode_pack6Argb8888 : decode .fbPackmode 0b1000_110 = .ok .pack6Argb8888 := by decide
theorem test_decode_pack7Unsupported : decode .fbPackmode 0b1000_111 = .ok .pack7Unsupported := by decide
/-! ### Single steps. Expected results are those of 95_test_vectors.md section 3, or computed by hand from the rule
named. -/

/-- The outcome is a next state with the property. -/
def nextIs (o : Res) (p : State → Bool) : Bool :=
  match o with
  | .next t => p t
  | _ => false

/-- The outcome is this refusal. -/
def refusedWith (o : Res) (r : Refusal) : Bool :=
  match o with
  | .refused q => q == r
  | _ => false

/-- The reset state with the driver at a position. -/
def atCtl (c : Ctl) : State := { State.reset with ctl := c }

/-- The same pixel everywhere. -/
def allPixel (p : Pixel) (s : State) : State := { s with tile := Vector.replicate 1024 p }

/-- Words of VRAM through the interleaved view. -/
def words (l : List (Nat × Word)) (s : State) : State := l.foldl (fun t x => pokeWord x.1 x.2 t) s

/-- Bytes of VRAM at physical addresses. -/
def bytesAt (l : List (Nat × Byte)) (s : State) : State :=
  { s with vram := l.foldl (fun m x => Memory.write m x.1 x.2) s.vram }

/-! Region entries (section 3.2). -/

theorem test_region_5_words : nextIs (exec (.region 3 10 true true false true) (pokeReg .ispFeedCfg 0 State.reset))
    (fun t => t.entry.tilex == 3 && t.entry.tiley == 10 && t.entry.noWriteout && !t.entry.preSort && t.ctl == .pointer)
    = true := by decide +kernel
theorem test_region_6_words :
    nextIs (exec (.region 0 0 false true true false) (pokeReg .fpuParamCfg 0x200000 State.reset))
    (fun t => t.entry.preSort && t.entry.zKeep && !t.entry.lastRegion) = true := by decide +kernel
theorem test_ptr : nextIs (exec (.ptr 0x40040) { State.reset with ptrIndex := 2 })
    (fun t => t.entry.transList == ⟨false, 0x100100⟩ && t.ctl == .pointer && t.ptrIndex == 3) = true := by
  decide +kernel
theorem test_ptrEmpty_last : nextIs (exec (.ptrEmpty 0x40040) { State.reset with ptrIndex := 3 })
    (fun t => t.entry.transModList.empty && t.ctl == .setup) = true := by decide +kernel

/-! Object-list entries over blocks of zeros: each primitive has area 0 and is reported under its tag (sections 3.4 to
3.6, 3.8), and the walk goes on. -/

theorem test_strip_tags : nextIs (exec (.strip 0x400 1 false 0b000101) State.reset)
    (fun t => t.errors == [.numericDomain 0x01002000, .numericDomain 0x01002002] && t.listPtr == 4) = true := by
  decide +kernel
theorem test_strip_no_triangle : nextIs (exec (.strip 0x400 1 false 0) State.reset)
    (fun t => t.errors == [] && t.listPtr == 4) = true := by decide +kernel
theorem test_tarray_tag : nextIs (exec (.tarray 0x400 3 false 0) State.reset)
    (fun t => t.errors == [.numericDomain 0x03002000] && t.listPtr == 4) = true := by decide +kernel
theorem test_tarray_next_block : nextIs (exec (.tarray 0x800 0 false 1) { State.reset with mode := .modifier })
    (fun t => t.errors == [.numericDomain 0x00004000, .numericDomain 0x00004060]) = true := by decide +kernel
theorem test_qarray_next_block : nextIs (exec (.qarray 0x400 1 false 1) State.reset)
    (fun t => t.errors == [.numericDomain 0x01002000, .numericDomain 0x01002098] && t.listPtr == 4) = true := by
  decide +kernel
theorem test_qarray_infinite_vertex : nextIs (exec (.qarray 0x400 1 false 0) (words [(0x100C, 0x7F800000)] State.reset))
    (fun t => t.errors == [.numericDomain 0x01002000]) = true := by decide +kernel
theorem test_modifier_ignored_bits : [0x20000000, 0x23600000].map (fun w =>
    match exec (.tarray 0x400 0 true 0) (words [(0x701000, w)]
      (pokeReg .paramBase 0xF00000 { State.reset with mode := .modifier })) with
    | .next t => t.errors.length
    | _ => 0) = [16, 16] := by decide +kernel
theorem test_modifier_tag_bypass : nextIs (exec (.strip 0x400 0 false 1) (words [(0x1000, 0x00200000)]
    { State.reset with mode := .modifier })) (fun t => t.errors == [.numericDomain 0x00002000]) = true := by
  decide +kernel
theorem test_entry_1024 : (endEntry { atCtl .entryEnd with entryCount := 1023, regionPtr := 0x100 }).regionPtr = 0x114 ∧
    (endEntry { atCtl .entryEnd with entryCount := 1023 }).result = some (.ok [.noLastRegion]) := by decide +kernel
theorem test_error_codes : [FrameError.configurationUnsupported .hscale, .malformedList 0 0, .noLastRegion,
    .addressOutOfRange 0x800000, .numericDomain 0].map FrameError.code = [0, 1, 1, 2, 3] := by decide
theorem test_reserved110 : nextIs (exec (.reserved110 0) { State.reset with listPtr := 0x100100 })
    (fun t => t.errors == [.malformedList 0x100100 0xC0000000] && t.listPtr == 0x100104) = true := by decide +kernel
theorem test_link : nextIs (exec (.link 0x10000) (atCtl .walk)) (fun t => t.listPtr == 0x40000 && t.ctl == .walk)
    = true := by decide +kernel
theorem test_linkEnd : nextIs (exec (.linkEnd 0) { atCtl .walk with resume := .ptTest })
    (fun t => t.ctl == .ptTest && t.listPtr == 0) = true := by decide +kernel

/-! DepthMode (section 3.7): fragment 0.5, 1.0, 2.0 against 1.0; 1.0 against a NaN; -0.0 against +0.0. -/

/-- Whether a fragment of depth `z` passes against the stored depth `zb`. -/
def passes (i : Instr) (z zb : Word) : Bool :=
  nextIs (exec i (allPixel { Pixel.powerOn with depthTest := zb } { State.reset with isp := ⟨0, false, z, false⟩ }))
    fun t => t.isp.pass

/-- The row of section 3.7's table for a code. -/
def depthRow (i : Instr) : List Bool :=
  [passes i 0x3F000000 0x3F800000, passes i 0x3F800000 0x3F800000, passes i 0x40000000 0x3F800000,
    passes i 0x3F800000 0x7FC00000, passes i 0x80000000 0]

theorem test_depth_never : depthRow .depthNever = [false, false, false, false, false] := by decide +kernel
theorem test_depth_less : depthRow .depthLess = [true, false, false, false, false] := by decide +kernel
theorem test_depth_equal : depthRow .depthEqual = [false, true, false, false, true] := by decide +kernel
theorem test_depth_lessequal : depthRow .depthLessequal = [true, true, false, false, true] := by decide +kernel
theorem test_depth_greater : depthRow .depthGreater = [false, false, true, false, false] := by decide +kernel
theorem test_depth_notequal : depthRow .depthNotequal = [true, false, true, true, false] := by decide +kernel
theorem test_depth_greaterequal : depthRow .depthGreaterequal = [false, true, true, false, true] := by decide +kernel
theorem test_depth_always : depthRow .depthAlways = [true, true, true, true, true] := by decide +kernel

/-! CullMode (section 3.8): doubled areas 1024 and -1024, thresholds 0 and 1000.0. -/

/-- Whether a primitive of this doubled area is culled under this threshold. -/
def culledAt (i : Instr) (area2 : Rat) (w : Word) : Bool :=
  nextIs (exec i (pokeReg .fpuCullVal w { State.reset with isp := ⟨area2, false, 0, false⟩ })) fun t => t.isp.culled

/-- Both orientations at threshold 0, and the positive one at 1000.0. -/
def cullRow (i : Instr) : List Bool := [culledAt i 1024 0, culledAt i (-1024) 0, culledAt i 1024 0x447A0000]

theorem test_cull_none : cullRow .cullNone = [false, false, false] := by decide +kernel
theorem test_cull_small : cullRow .cullSmall = [false, false, true] := by decide +kernel
theorem test_cull_negative : cullRow .cullNegative = [false, true, true] := by decide +kernel
theorem test_cull_positive : cullRow .cullPositive = [true, false, true] := by decide +kernel

/-! VolumeMode (section 3.9), at the last pixel. -/

theorem test_vol_none : nextIs (exec (.volNone 0) (allPixel { Pixel.powerOn with stencil := 1 } State.reset))
    (fun t => (pixel t 1023).stencil == 1 && !t.andPhase && !inside t 1023) = true := by decide +kernel
theorem test_vol_or : ∃ t, exec (.volOr 0) (allPixel { Pixel.powerOn with stencil := 1 } State.reset) = .next t ∧
    (pixel t 1023).stencil = 2 :=
  ⟨_, rfl, by rw [pixel_summarizeStencilOr]; decide +kernel⟩
theorem test_vol_and : ∃ t, exec (.volAnd 0) (allPixel { Pixel.powerOn with stencil := 7 } State.reset) = .next t ∧
    (pixel t 1023).stencil = 6 :=
  ⟨_, rfl, by rw [pixel_summarizeStencilAnd]; decide +kernel⟩
theorem test_fold_rows : [foldOr 1, foldOr 0, foldOr 3, foldAnd 3, foldAnd 1] = [2, 0, 2, 2, 0] := by decide
theorem test_vol_reserved3 : refusedWith (exec .volReserved3 State.reset) (.volumeModeReserved 3) = true := by
  decide +kernel
theorem test_vol_reserved4 : refusedWith (exec .volReserved4 State.reset) (.volumeModeReserved 4) = true := by
  decide +kernel
theorem test_vol_reserved5 : refusedWith (exec .volReserved5 State.reset) (.volumeModeReserved 5) = true := by
  decide +kernel
theorem test_vol_reserved6 : refusedWith (exec .volReserved6 State.reset) (.volumeModeReserved 6) = true := by
  decide +kernel
theorem test_vol_reserved7 : refusedWith (exec .volReserved7 State.reset) (.volumeModeReserved 7) = true := by
  decide +kernel

/-! Blend factors (section 3.18): source (200,100,50,64), accumulator (10,20,30,240). -/

/-- The shaded colour and the accumulator of section 3.18 at pixel 5, with a source term. -/
def blendState (term : Color) : State :=
  allPixel { Pixel.powerOn with accum := ⟨10, 20, 30, 240⟩ }
    { State.reset with pix := 5, tsp := { State.reset.tsp with c := ⟨200, 100, 50, 64⟩, srcTerm := term } }

/-- The source term a SRC code leaves. -/
def srcGives (i : Instr) (c : Color) : Bool := nextIs (exec i (blendState Color.zero)) fun t => t.tsp.srcTerm == c

/-- The accumulator a DST code leaves over a source term 0, and that its neighbour is unchanged. -/
def dstGives (i : Instr) (c : Color) : Bool :=
  nextIs (exec i (blendState Color.zero)) fun t => (pixel t 5).accum == c && (pixel t 6).accum == ⟨10, 20, 30, 240⟩

theorem test_src_zero : srcGives .srcZero ⟨0, 0, 0, 0⟩ = true := by decide +kernel
theorem test_src_one : srcGives .srcOne ⟨200, 100, 50, 64⟩ = true := by decide +kernel
theorem test_src_other : srcGives .srcOther ⟨8, 8, 6, 60⟩ = true := by decide +kernel
theorem test_src_invother : srcGives .srcInvother ⟨192, 92, 44, 4⟩ = true := by decide +kernel
theorem test_src_srcalpha : srcGives .srcSrcalpha ⟨50, 25, 13, 16⟩ = true := by decide +kernel
theorem test_src_invsrcalpha : srcGives .srcInvsrcalpha ⟨150, 75, 37, 48⟩ = true := by decide +kernel
theorem test_src_dstalpha : srcGives .srcDstalpha ⟨188, 94, 47, 60⟩ = true := by decide +kernel
theorem test_src_invdstalpha : srcGives .srcInvdstalpha ⟨12, 6, 3, 4⟩ = true := by decide +kernel
theorem test_dst_zero : dstGives .dstZero ⟨0, 0, 0, 0⟩ = true := by decide +kernel
theorem test_dst_one : dstGives .dstOne ⟨10, 20, 30, 240⟩ = true := by decide +kernel
theorem test_dst_other : dstGives .dstOther ⟨8, 8, 6, 60⟩ = true := by decide +kernel
theorem test_dst_invother : dstGives .dstInvother ⟨2, 12, 24, 180⟩ = true := by decide +kernel
theorem test_dst_srcalpha : dstGives .dstSrcalpha ⟨3, 5, 8, 60⟩ = true := by decide +kernel
theorem test_dst_invsrcalpha : dstGives .dstInvsrcalpha ⟨7, 15, 22, 180⟩ = true := by decide +kernel
theorem test_dst_dstalpha : dstGives .dstDstalpha ⟨9, 19, 28, 226⟩ = true := by decide +kernel
theorem test_dst_invdstalpha : dstGives .dstInvdstalpha ⟨1, 1, 2, 14⟩ = true := by decide +kernel
theorem test_dst_one_saturates : nextIs (exec .dstOne (blendState ⟨200, 100, 50, 64⟩))
    (fun t => (pixel t 5).accum == ⟨210, 120, 80, 255⟩) = true := by decide +kernel

/-! Fog (section 3.17): density 1.0, table entry 0 = (200, 100), colour (200,100,50,7), 1/w = 1.0. -/

/-- The state of section 3.17. -/
def fogState : State :=
  pokeReg .fogDensity 0x8000 (pokeReg (.fogTable 0) 0xC864 (pokeReg .fogColRam 0xFF (pokeReg .fogColVert 0xFF
    { State.reset with tsp := { State.reset.tsp with
        c := ⟨200, 100, 50, 7⟩, zf := 0x3F800000, offset := ⟨0, 0, 0, 199⟩ } })))

/-- The colour a FOG code leaves. -/
def fogGives (i : Instr) (c : Color) : Bool := nextIs (exec i fogState) fun t => t.tsp.c == c

theorem test_fog_table : fogGives .fogTable ⟨44, 22, 210, 7⟩ = true := by decide +kernel
theorem test_fog_vertex : fogGives .fogVertex ⟨44, 22, 210, 7⟩ = true := by decide +kernel
theorem test_fog_none : fogGives .fogNone ⟨200, 100, 50, 7⟩ = true := by decide +kernel
theorem test_fog_tablealpha : fogGives .fogTablealpha ⟨0, 0, 255, 199⟩ = true := by decide +kernel
theorem test_fog_alpha_between : fogTableAlpha fogState 0x3F840000 = 149 := by decide +kernel
theorem test_fog_index : [fogIndex (fogCoordinate fogState 0x3FC00000), fogIndex (fogCoordinate fogState 0x42C80000),
    fogIndex (fogCoordinate fogState 0x447A0000), fogIndex (fogCoordinate fogState 0xBF800000)] = [8, 105, 127, 0] := by
  decide +kernel

/-! Sampling (section 3.15): an 8 x 8 ARGB4444 texture at 0x1000 whose texels (0,0), (1,0), (0,1), (1,1) are red, blue,
green, white; they have twiddled indices 0, 2, 1, 3. -/

/-- That texture, sampled at (u, v). -/
def sampleState (u v : Rat) : State :=
  bytesAt [(0x1001, 0xFF), (0x1002, 0xF0), (0x1003, 0xF0), (0x1004, 0x0F), (0x1005, 0xF0), (0x1006, 0xFF),
      (0x1007, 0xFF)]
    { State.reset with tsp := { State.reset.tsp with tcw := 0x10000200, u := u, v := v, nu := 8, nv := 8 } }

/-- The filtered colour a FILTER code leaves. -/
def samples (i : Instr) (u v : Rat) (c : Color) : Bool := nextIs (exec i (sampleState u v)) fun t => t.tsp.tex == c

theorem test_filter_point : samples .filterPoint (1 / 8) (1 / 16) ⟨0, 0, 255, 255⟩ = true := by decide +kernel
theorem test_filter_point_wraps : samples .filterPoint (9 / 8) (-7 / 8) ⟨255, 255, 255, 255⟩ = true := by decide +kernel
theorem test_filter_bilinear1 : samples .filterBilinear1 (1 / 8) (1 / 16) ⟨127, 0, 127, 255⟩ = true := by decide +kernel
theorem test_filter_bilinear2 : samples .filterBilinear2 (3 / 32) (1 / 16) ⟨191, 0, 63, 255⟩ = true := by decide +kernel
theorem test_filter_bilinear3 : samples .filterBilinear3 (1 / 8) (1 / 8) ⟨127, 127, 127, 255⟩ = true := by
  decide +kernel
theorem test_filter_bilinear_on_texel : samples .filterBilinear1 (1 / 16) (1 / 16) ⟨255, 0, 0, 255⟩ = true := by
  decide +kernel

/-! Colour combination (section 3.16): texture (200,100,50,64), base (10,20,30,240). -/

/-- The colour a SHAD code leaves. -/
def shades (i : Instr) (c : Color) : Bool :=
  nextIs (exec i { State.reset with tsp := { State.reset.tsp with
    tex := ⟨200, 100, 50, 64⟩, base := ⟨10, 20, 30, 240⟩ } }) fun t => t.tsp.c == c

theorem test_shad_decal : shades .shadDecal ⟨200, 100, 50, 64⟩ = true := by decide +kernel
theorem test_shad_modulate : shades .shadModulate ⟨8, 8, 6, 64⟩ = true := by decide +kernel
theorem test_shad_decalalpha : shades .shadDecalalpha ⟨58, 40, 35, 240⟩ = true := by decide +kernel
theorem test_shad_modulatealpha : shades .shadModulatealpha ⟨8, 8, 6, 60⟩ = true := by decide +kernel
theorem test_add_offset : addOffset ⟨200, 100, 50, 64⟩ ⟨100, 10, 0, 99⟩ = ⟨255, 110, 50, 64⟩ := by decide
theorem test_color_clamp : colorClamp (pokeReg .fogClampMin 0x10203040 (pokeReg .fogClampMax 0xF0E0D0C0 State.reset))
    ⟨5, 250, 100, 255⟩ = ⟨32, 208, 100, 240⟩ := by decide +kernel

/-! Texel formats (sections 3.12 to 3.14), at texel (0, 0) of an 8 x 8 texture at 0x1000. -/

/-- The texel a FMT code leaves, with these bytes at 0x1000 on. -/
def fetches (i : Instr) (l : List Byte) (f : State → State) (c : Color) : Bool :=
  nextIs (exec i (f (bytesAt (l.mapIdx fun k b => (0x1000 + k, b))
    { State.reset with tsp := { State.reset.tsp with nu := 8, nv := 8 } }))) fun t => t.tsp.texel == c

theorem test_fmt_argb1555 : fetches (.fmtArgb1555 0x200) [0x34, 0x12] id ⟨32, 136, 160, 0⟩ = true := by decide +kernel
theorem test_fmt_rgb565 : fetches (.fmtRgb565 0x200) [0x34, 0x12] id ⟨16, 68, 160, 255⟩ = true := by decide +kernel
theorem test_fmt_argb4444 : fetches (.fmtArgb4444 0x200) [0x34, 0x12] id ⟨34, 51, 68, 17⟩ = true := by decide +kernel
theorem test_fmt_argb1555_alpha : fetches (.fmtArgb1555 0x200) [0x00, 0xFC] id ⟨248, 0, 0, 255⟩ = true := by
  decide +kernel
theorem test_fmt_yuv422_even : fetches (.fmtYuv422 0x200) [0x40, 0x40, 0, 0, 0xC0, 0x60] id ⟨152, 42, 0, 255⟩
    = true := by decide +kernel
theorem test_fmt_yuv422_odd : fetches (.fmtYuv422 0x200) [0x40, 0x40, 0, 0, 0xC0, 0x60] (setTexel 1 0) ⟨184, 74, 0, 255⟩
    = true := by decide +kernel
theorem test_fmt_pal4 : fetches (.fmtPal4 3 0x200) [0, 0, 0xA7]
    (fun s => setTexel 0 3 (pokeReg (.paletteRam 58) 0x80FF4020 (pokeReg .palRamCtrl 3 s))) ⟨255, 64, 32, 128⟩
    = true := by decide +kernel
theorem test_fmt_pal8 : fetches (.fmtPal8 0x35 0x200) [0x7B]
    (pokeReg (.paletteRam 891) 0x80FF4020 ∘ pokeReg .palRamCtrl 3) ⟨255, 64, 32, 128⟩ = true := by decide +kernel
theorem test_fmt_bump_fetches : nextIs (exec (.fmtBump 0x200)
    { State.reset with tsp := { State.reset.tsp with nu := 8, nv := 8, iu := 3, iv := 5 } })
    (fun t => t.tsp.index == 27 && t.errors == []) = true := by decide +kernel
theorem test_fmt_reserved7 : refusedWith (exec (.fmtReserved7 0) State.reset) .pixelFmtReserved = true := by
  decide +kernel
theorem test_refused_for_two_reasons : refusedWith
    (textureStage { State.reset with tsp := { State.reset.tsp with tcw := 0x78000000 } }) .vqCompressed = true := by
  decide +kernel
theorem test_tcw_vq : refusedWith (exec .tcwVq State.reset) .vqCompressed = true := by decide +kernel

/-! Scan order and mip level (sections 3.10, 3.11; R411, R414). -/

/-- The TSP at texel (iu, iv) of a level of this size, with these texture words. -/
def scanState (tspWord tcw : Word) (nu nv iu iv : Nat) : State :=
  { State.reset with tsp := { State.reset.tsp with
    tspWord := tspWord, tcw := tcw, nu := nu, nv := nv, iu := iu, iv := iv } }

theorem test_tcw_twiddled : nextIs (exec .tcwTwiddled (scanState 0 0 8 8 3 5)) (fun t => t.tsp.index == 27) = true := by
  decide +kernel
theorem test_tcw_twiddled_oblong : nextIs (exec .tcwTwiddled (scanState 0 0 16 8 5 3)) (fun t => t.tsp.index == 39)
    = true := by decide +kernel
theorem test_tcw_stride_size : nextIs (exec (.tcwStrideScan false) (scanState 0x10 0x04000000 32 8 5 2))
    (fun t => t.tsp.index == 69) = true := by decide +kernel
theorem test_tcw_stride_register :
    nextIs (exec (.tcwStrideScan true) (pokeReg .textControl 20 (scanState 0x38 0x06000000 1024 8 5 2)))
    (fun t => t.tsp.index == 1285) = true := by decide +kernel
theorem test_tcw_mipmapped_stride : nextIs (exec .tcwMipmapped (scanState 0x11 0x84000000 0 0 0 0))
    (fun t => t.tsp.level == 0 && t.tsp.nu == 32 && t.tsp.nv == 16) = true := by decide +kernel
theorem test_address_rows : [-9, -1, 8, 9, 17].map (fun i => [addressTexel i 8 false false, addressTexel i 8 true false,
    addressTexel i 8 false true, addressTexel i 8 true true]) =
    [[7, 0, 7, 0], [7, 0, 0, 0], [0, 7, 7, 7], [1, 7, 6, 7], [1, 7, 1, 7]] := by decide

/-! Palette formats (sections 3.12, 3.14). -/

/-- The texel a PAL code leaves of an entry. -/
def paletteGives (i : Instr) (e : Word) (c : Color) : Bool :=
  nextIs (exec i { State.reset with tsp := { State.reset.tsp with palEntry := e } }) fun t => t.tsp.texel == c

theorem test_pal_argb1555 : paletteGives .palArgb1555 0xABCD1234 ⟨32, 136, 160, 0⟩ = true := by decide +kernel
theorem test_pal_rgb565 : paletteGives .palRgb565 0xABCD1234 ⟨16, 68, 160, 255⟩ = true := by decide +kernel
theorem test_pal_argb4444 : paletteGives .palArgb4444 0xABCD1234 ⟨34, 51, 68, 17⟩ = true := by decide +kernel
theorem test_pal_argb8888 : paletteGives .palArgb8888 0x80FF4020 ⟨255, 64, 32, 128⟩ = true := by decide +kernel

/-! Pack modes (sections 3.19, 3.20), at the configuration check. -/

/-- The code aborts the frame. -/
def aborts (i : Instr) : Bool :=
  nextIs (exec i (atCtl .checkPack)) fun t =>
    t.result == some (.aborted (.configurationUnsupported .fbPackmode) []) && t.ctl == .idle

theorem test_pack0 : aborts .pack0Unsupported = true := by decide +kernel
theorem test_pack2 : aborts .pack2Unsupported = true := by decide +kernel
theorem test_pack3 : aborts .pack3Unsupported = true := by decide +kernel
theorem test_pack4 : aborts .pack4Unsupported = true := by decide +kernel
theorem test_pack5 : aborts .pack5Unsupported = true := by decide +kernel
theorem test_pack7 : aborts .pack7Unsupported = true := by decide +kernel
theorem test_pack1_goes_on : nextIs (exec .pack1Rgb565 (atCtl .checkPack)) (fun t => t.ctl == .checkScaler) = true := by
  decide +kernel
theorem test_pack6_goes_on : nextIs (exec .pack6Argb8888 (atCtl .checkPack)) (fun t => t.ctl == .checkScaler)
    = true := by decide +kernel

/-- A writeback at 0x200000 with stride 0, every pixel 0 but the last, (64,0,128,159). -/
def writebackState : State :=
  updatePixel 1023 (fun p => { p with accum := ⟨64, 0, 128, 159⟩ }) (pokeReg .fbWSof1 0x200000 (atCtl .writeback))

theorem test_pack6_writes_last : ∃ t, exec .pack6Argb8888 writebackState = .next t ∧
    word32 t.vram 0x20007C = 0x9F800040 := by
  have h := exec_pack6_last writebackState (by decide +kernel) (by decide +kernel)
  rwa [show pixelAddress writebackState 4 1023 = 0x20007C by decide +kernel,
    show pack8888 (pixel writebackState 1023).accum = 0x9F800040 by decide +kernel] at h
theorem test_pack565_rows : [pack565 ⟨255, 0, 0, 0⟩ 0 0, pack565 ⟨0, 255, 0, 0⟩ 0 0, pack565 ⟨0, 0, 255, 0⟩ 0 0,
    pack565 ⟨128, 128, 128, 0⟩ 0 0, pack565 ⟨128, 128, 128, 0⟩ 1 0] = [0x001F, 0x07E0, 0xF800, 0x7BEF, 0x8410] := by
  decide

/-! The address map (section 3.1), and one step that fetches, decodes and runs. -/

theorem test_physical_rows : [4, 0x200004, 0x200280, 0x3FFFFC, 0x400000, 0x7FFFFC, 0x800000, 0x1000004].map physical =
    [8, 0x400008, 0x400500, 0x7FFFF8, 4, 0x7FFFFC, 0, 8] := by decide
theorem test_step_link_end :
    nextIs (step (words [(0x100, 0xF0000000)] { atCtl .walk with listPtr := 0x100, resume := .setup }))
    (fun t => t.ctl == .setup) = true := by decide +kernel
theorem test_with_fetch_word : nextIs (step (State.reset.withFetchWord 32 0xC0000005))
    (fun t => t.errors == [.malformedList 0 0xC0000005] && t.listPtr == 4) = true := by decide +kernel

/-! ### Witnesses: concrete states and operands that meet the hypotheses of each statement, clause by clause. A
statement without hypotheses has none. -/

/-- A triangle (0,0), (1,0), (0,1) of 1/w 1.0 at word 0x400, DepthMode always; a TARRAY of it at 0. -/
def triangleState : State :=
  words [(0x1000, 0xE0000000), (0x1014, 0x3F800000), (0x101C, 0x3F800000), (0x1024, 0x3F800000), (0x102C, 0x3F800000),
    (0x1030, 0x3F800000), (0x1034, 0x3F800000), (0, 0x80200400)] (atCtl .walk)

/-- A vertex with these coordinates. -/
def vertexOfWords (x y z : Word) : Vertex := { Vertex.zero with x := x, y := y, z := z }

/-- The three vertices of a triangle of area 1/2 at the origin. -/
def corner0 : Vertex := vertexOfWords 0 0 0x3F800000
def corner1 : Vertex := vertexOfWords 0x3F800000 0 0x3F800000
def corner2 : Vertex := vertexOfWords 0 0x3F800000 0x3F800000

/-- A list pointer that is not empty. -/
def someList : ListPointer := ⟨false, 0xFFFFFC⟩

/-- A region entry with every list, the largest tile coordinates and the last word's addresses. -/
def fullEntry : RegionEntry := ⟨63, 63, false, false, false, false, someList, someList, someList, someList, someList⟩

theorem test_witness_DecodeUndoesEncode : Instr.wellFormed (.strip 0x1FFFFF 7 true 0x3F) = true := by decide

theorem test_witness_EncodeUndoesDecode : decode .scanOrder 0xFFFFFFFF = .ok (.tcwStrideScan true) := by decide

theorem test_witness_ObjectEntryTypes : (0x7FFFFFFF : Word).getLsbD 31 = false ∧
    (0x9FFFFFFF : Word).extractLsb' 29 3 = 0b100#3 ∧ (0xBFFFFFFF : Word).extractLsb' 29 3 = 0b101#3 ∧
    (0xFFFFFFFF : Word).extractLsb' 29 3 = 0b111#3 ∧ (0xDFFFFFFF : Word).extractLsb' 29 3 = 0b110#3 := by decide

theorem test_witness_EntryFields : (0x7FFFFFFF : Word).getLsbD 31 = false ∧
    (0x80000000 : Word).extractLsb' 29 3 = 0b100#3 ∧ (0xA0000000 : Word).extractLsb' 29 3 = 0b101#3 ∧
    (0xE0000000 : Word).extractLsb' 29 3 = 0b111#3 := by decide

theorem test_witness_AddressMapBijection : 0x7FFFFF < vramSize ∧ pvrMap32 0x7FFFFF = pvrMap32 0x7FFFFF ∧
    0x3FFFFE < 0x3FFFFF ∧ 0x3FFFFE / 2 ^ 22 = 0x3FFFFF / 2 ^ 22 ∧ 0xFFFFF < 2 ^ 20 := by decide

theorem test_witness_StoresWriteTheirBytes :
    Memory.wf (pokeWord 0x7FFFFC 0xFFFFFFFF State.reset).vram = true ∧ 0x800002 % 2 = 0 ∧ 0x7FFFFC % 4 = 0 := by
  decide +kernel

theorem test_witness_PackedWordRoundTrip : Memory.wf State.reset.vram = true ∧ 0x800000 % 4 = 0 ∧
    pack8888 ⟨1, 2, 3, 4⟩ = pack8888 ⟨1, 2, 3, 4⟩ := by decide

theorem test_witness_RegistersAreNeverWritten : ∃ t, step (atCtl .setup) = .next t := ⟨_, rfl⟩

theorem test_witness_VramWrittenOnlyByWriteback : let s := pokeReg .fbWCtrl 6 writebackState
    (∀ f a, s.ctl ≠ .operand f a) ∧ ∃ t, step s = .next t ∧ t.vram ≠ s.vram := by
  refine ⟨fun f a h => (by cases h), ?_⟩
  obtain ⟨t, ht, hw⟩ := exec_pack6_last (pokeReg .fbWCtrl 6 writebackState) rfl (by decide +kernel)
  rw [show pixelAddress (pokeReg .fbWCtrl 6 writebackState) 4 1023 = 0x20007C by decide +kernel,
    show pack8888 (pixel (pokeReg .fbWCtrl 6 writebackState) 1023).accum = 0x9F800040 by decide +kernel] at hw
  have hd : decode .fbPackmode (reg (pokeReg .fbWCtrl 6 writebackState) .fbWCtrl) = .ok .pack6Argb8888 := by
    decide +kernel
  refine ⟨leaveOperand t, ?_, ?_⟩
  · show stepFetch .fbPackmode (.register .fbWCtrl) _ = _
    unfold stepFetch
    rw [show fetchWord (.register .fbWCtrl) (pokeReg .fbWCtrl 6 writebackState) =
      reg (pokeReg .fbWCtrl 6 writebackState) .fbWCtrl from rfl, hd]
    show andThen (exec .pack6Argb8888 (pokeReg .fbWCtrl 6 writebackState)) (fun u => .next (leaveOperand u)) = _
    rw [ht]
    rfl
  · have hl : (leaveOperand t).vram = t.vram := by
      unfold leaveOperand
      split <;> rfl
    intro he
    rw [hl] at he
    rw [he] at hw
    revert hw
    decide +kernel

theorem test_witness_StepRunsDecodedInstruction :
    fetchPoint triangleState = some (.objectList, .vram 0) ∧ fetchAligned (.vram 0) = true ∧
    decode .objectList (fetchWord (.vram 0) triangleState) = .ok (.tarray 0x400 1 false 0) ∧
    (atCtl .checkPack).ctl = .checkPack ∧ (atCtl .region).ctl = .region ∧ (atCtl .pointer).ctl = .pointer ∧
    (atCtl .writeback).ctl = .writeback ∧ (atCtl .writeback).entry.noWriteout = false := by decide +kernel

/-- A state at the bounds of the invariant: the last tile, the last region entry, all stencil and status bits set. -/
def boundState : State :=
  allPixel { Pixel.powerOn with stencil := 7, status := 3 }
    { atCtl .walk with
      regionPtr := 0xFFFFFC, listPtr := 0xFFFFFC, entry := fullEntry, tilex := 63, tiley := 63, entryCount := 1023
      resume := .operand .depthMode 0xFFFFFC }

theorem test_witness_InvariantIsKept : Inv boundState ∧ ∃ t, step boundState = .next t := by
  refine ⟨⟨rfl, rfl, fun i => ?_, rfl, rfl, ⟨by decide, by decide, rfl, rfl, rfl, rfl, rfl⟩, by decide, by decide,
    by decide, trivial, rfl⟩, ?_⟩
  · have h : pixel boundState i = { Pixel.powerOn with stencil := 7, status := 3 } := by
      simp [pixel, boundState, allPixel]
    rw [h]
    exact ⟨by decide, by decide⟩
  · exact ⟨_, rfl⟩

theorem test_witness_CacheStaysSound :
    let p : DrawParameters := ⟨⟨false, 0, 0, 0, 0, 0⟩, corner0, corner1, corner2, none, 0x01002000⟩
    CacheSound { atCtl .opaqueStart with fpuCache := [(0x01002000, p)] } ∧
      ∃ t, step { atCtl .opaqueStart with fpuCache := [(0x01002000, p)] } = .next t := by
  refine ⟨?_, _, rfl⟩
  intro e he
  simp only [List.mem_singleton] at he
  subst he
  refine ⟨rfl, ?_⟩
  unfold canRasterize
  decide +kernel

theorem test_witness_ErrorsOnlyGrow : (words [(0, 0xC0000000)] (atCtl .walk)).ctl ≠ .idle ∧
    nextIs (step (words [(0, 0xC0000000)] (atCtl .walk))) (fun t => t.errors == [.malformedList 0 0xC0000000])
    = true := by decide +kernel

theorem test_witness_MoreToDrawOnlyInPeels :
    nextIs (step (allPixel { Pixel.powerOn with depthRef := 0x7F7FFFFF }
      { triangleState with mode := .punchthroughPass0 })) (fun t => t.moreToDraw) = true ∧
    triangleState.moreToDraw = false ∧ triangleState.ctl = .walk := by decide +kernel

theorem test_witness_AndBitIsNeverSet :
    let s := allPixel { Pixel.powerOn with stencil := 3 } { atCtl .opaqueStart with andPhase := true }
    NoAndBit s ∧ s.andPhase = true ∧ ∃ t, step s = .next t := by
  refine ⟨fun i => ?_, rfl, _, rfl⟩
  simp [pixel, allPixel]

theorem test_witness_RegionEntryIsRead :
    let s : State := { atCtl .region with regionPtr := 0xFFFFFC }
    let t : State := { atCtl .entryEnd with entryCount := 1022 }
    s.ctl = .region ∧ s.regionPtr % 4 = 0 ∧ t.ctl = .entryEnd ∧ t.regs = s.regs ∧ t.entry.lastRegion = false ∧
      t.entryCount + 1 < 1024 := by decide +kernel

theorem test_witness_ConfigurationCheck :
    (∀ w ∈ ([0, 7] : List Word), (pokeReg .fbWCtrl w State.reset).ctl = .idle ∧
      (reg (pokeReg .fbWCtrl w State.reset) .fbWCtrl).extractLsb' 0 3 ≠ 1 ∧
      (reg (pokeReg .fbWCtrl w State.reset) .fbWCtrl).extractLsb' 0 3 ≠ 6) ∧
    (pokeReg .fbWCtrl 1 State.reset).ctl = .idle ∧
    (reg (pokeReg .fbWCtrl 1 State.reset) .fbWCtrl).extractLsb' 0 3 = 1 ∧
    (reg (pokeReg .fbWCtrl 0xFFFFFFFE State.reset) .fbWCtrl).extractLsb' 0 3 = 6 := by
  simp only [List.forall_mem_cons, List.not_mem_nil, false_implies, implies_true, and_true]
  decide +kernel

theorem test_witness_TileSetup :
    let s : State := { atCtl .setup with entry := fullEntry }
    let t : State := { atCtl .setup with entry := { fullEntry with zKeep := true } }
    s.ctl = .setup ∧ s.entry.zKeep = false ∧ t.ctl = .setup ∧ t.entry.zKeep = true := by decide +kernel

theorem test_witness_PassesInOrder :
    let full := fun (c : Ctl) (e : RegionEntry) => ({ atCtl c with entry := e } : State)
    [Ctl.opaqueStart, .opaqueModStart, .opaqueTags, .ptTags, .ptModStart, .ptMvTags, .entryEnd].map
      (fun c => (full c fullEntry).ctl) =
      [.opaqueStart, .opaqueModStart, .opaqueTags, .ptTags, .ptModStart, .ptMvTags, .entryEnd] ∧
    (let s := full .ptStart RegionEntry.zero; s.ctl = .ptStart ∧ s.entry.ptList.empty = true) ∧
    (let s := full .transStart RegionEntry.zero; s.ctl = .transStart ∧ s.entry.transList.empty = true) ∧
    (let s := full .transStart { fullEntry with preSort := true };
      s.ctl = .transStart ∧ s.entry.transList.empty = false ∧ s.entry.preSort = true) ∧
    (let s := full .writeback { fullEntry with noWriteout := true };
      s.ctl = .writeback ∧ s.entry.noWriteout = true) ∧
    (let s := { full .entryEnd fullEntry with entryCount := 1023 };
      s.ctl = .entryEnd ∧ s.entry.lastRegion = false ∧ ¬ s.entryCount + 1 < 1024) := by decide +kernel

theorem test_witness_PunchThroughLoop :
    let s := fun (c : Ctl) (b : Bool) => ({ atCtl c with entry := fullEntry, moreToDraw := b } : State)
    (s .ptStart false).entry.ptList.empty = false ∧ (s .ptStart false).ctl = .ptStart ∧
    (s .ptIterate true).entry.ptList.empty = false ∧ (s .ptIterate true).ctl = .ptIterate ∧
    (let u : State := { atCtl .ptIterate with entry := fullEntry, ptIteration := 1 }
     u.entry.ptList.empty = false ∧ u.ctl = .ptIterate ∧ u.ptIteration ≠ 0) ∧
    (s .ptTest false).entry.ptList.empty = false ∧ (s .ptTest false).ctl = .ptTest ∧
    (s .ptTest false).moreToDraw = false ∧ (s .ptTest true).entry.ptList.empty = false ∧
    (s .ptTest true).ctl = .ptTest ∧ (s .ptTest true).moreToDraw = true := by
  decide +kernel

theorem test_witness_AutosortLoop :
    let s := fun (c : Ctl) => ({ atCtl c with entry := fullEntry } : State)
    [s .transStart, s .sortIterate, s .sortModStart, s .sortTags, s .sortTest].map
      (fun u => (u.ctl, u.entry.transList.empty, u.entry.preSort)) =
      [(.transStart, false, false), (.sortIterate, false, false), (.sortModStart, false, false),
        (.sortTags, false, false), (.sortTest, false, false)] := by decide +kernel

theorem test_witness_LinksAndUnknownEntries : State.reset.mode ≠ .punchthroughMv := by decide +kernel

/-- A block at word 0 whose ISP word, or modifier word, and texture word are these. -/
def blockState (m : RenderMode) (isp tcw : Word) : State := words [(0, isp), (8, tcw)] { State.reset with mode := m }

theorem test_witness_ListEntriesComplete :
    (blockState .modifier 0x40000000 0).mode ≠ .punchthroughMv ∧
    (blockState .translucentPresort 0x02000000 0x30000000).mode ≠ .punchthroughMv ∧
    blockOk .modifier (stripHeader (blockState .modifier 0x40000000 0) 0 false) ∧
    blockOk .translucentPresort (stripHeader (blockState .translucentPresort 0x02000000 0x30000000) 0 true) ∧
    (∀ k, k ≤ 0 → blockOk .modifier (arrayHeader (blockState .modifier 0x40000000 0) 3 0 0 false k)) ∧
    ∀ k, k ≤ 0 → blockOk .modifier (arrayHeader (blockState .modifier 0x40000000 0) 4 0 0 false k) := by
  refine ⟨by decide +kernel, by decide +kernel, ⟨fun _ => (by decide +kernel), fun h => (by cases h)⟩,
    ⟨fun h => (by cases h), fun _ _ => ?_⟩, fun k hk => ?_, fun k hk => ?_⟩
  · unfold tcwOk
    decide +kernel
  all_goals
    obtain rfl : k = 0 := by omega
    exact ⟨fun _ => (by decide +kernel), fun h => (by cases h)⟩

theorem test_witness_RefusedInputs :
    bits (stripHeader (blockState .modifier 0x60000000 0) 0 false).isp 31 29 = 3 ∧
    bits (arrayHeader (blockState .modifier 0xE0000000 0) 3 0 0 false 0).isp 31 29 = 7 ∧
    bits (arrayHeader (words [(0x30, 0x60000000)] (blockState .modifier 0 0)) 3 0 0 false 0).isp 31 29 < 3 ∧
    bits (arrayHeader (words [(0x30, 0x60000000)] (blockState .modifier 0 0)) 3 0 0 false 1).isp 31 29 = 3 ∧
    bits (arrayHeader (blockState .modifier 0x60000000 0) 4 0 0 false 0).isp 31 29 = 3 ∧
    bit (0x02000000 : Word) 25 = true ∧ bit (0x40000000 : Word) 30 = true ∧ bits (0x38000000 : Word) 29 27 = 7 ∧
    Instr.format (.linkEnd 0) = .objectList ∧ (blockState .punchthroughMv 0 0).mode = .punchthroughMv := by
  decide +kernel

theorem test_witness_ArrayIsItsPrimitives :
    (blockState .modifier 0x43600000 0).mode ≠ .punchthroughMv ∧ State.reset.mode ≠ .punchthroughMv ∧
    decode .volumeMode (word32 (blockState .modifier 0x43600000 0).vram 0) = .ok (.volAnd 0) ∧
    decode .volumeMode (word32 State.reset.vram 0) = .ok (.volNone 0) := by decide +kernel

theorem test_witness_StripTriangleChoice :
    (blockState .modifier 0x23600000 0).mode = .modifier ∧ State.reset.mode = .opaqueMode ∧
    decode .volumeMode (word32 (blockState .modifier 0x23600000 0).vram 0) = .ok (.volOr 0) ∧
    decode .volumeMode (word32 State.reset.vram 0) = .ok (.volNone 0) := by decide +kernel

theorem test_witness_TagsNameTheirTriangle : 7 < 8 ∧ 5 ≤ 5 ∧ 0x1FFFFF < 2 ^ 21 ∧ RenderMode.opaqueMode ≠ .modifier ∧
    (let b := blockAt .opaqueMode State.reset.vram (paramBase State.reset + 0x400 * 4) 1 false 4
     let t := makeTag 0 0x400 1 false b.hdr.isp
     let p : DrawParameters := ⟨b.hdr, vertexOf b.verts 0, vertexOf b.verts 1, vertexOf b.verts 2,
       some (vertexOf b.verts 3), t⟩
     cacheLookup (cacheInsert p State.reset) t = some p ∧ t.getLsbD 28 = false) ∧
    (0x10000000 : Word).getLsbD 28 = true ∧ cacheLookup State.reset 7 = none ∧
    ((0x00FFFFFD : Word).extractLsb' 0 3).toNat ≤ 5 := by decide +kernel

theorem test_witness_VertexLayout : 7 < 8 ∧ 0 < 1 ∧ (0x03400000 : Word).getLsbD 25 = true ∧
    (0x03400000 : Word).getLsbD 22 = true ∧ (0x03400000 : Word).getLsbD 24 = true ∧
    (0x02000000 : Word).getLsbD 25 = true ∧ (0x02000000 : Word).getLsbD 22 = false := by decide

theorem test_witness_SkippedPrimitives : vertexFinite (vertexOfWords 0x7F800000 0 0) = false ∧
    vertexFinite (vertexOfWords 0 0 0x7FC00000) = false ∧
    (planeOf corner0 corner1 corner1).area2 = 0 ∧ vertexFinite corner0 = true ∧ vertexFinite corner1 = true ∧
    vertexFinite corner2 = true ∧ (planeOf corner0 corner1 corner2).area2 ≠ 0 ∧
    culls 3 (planeOf corner0 corner1 corner2).area2 0 = true := by decide +kernel

theorem test_witness_CoverageAndDepth : vertexFinite corner0 = true ∧ vertexFinite corner1 = true ∧
    vertexFinite corner2 = true ∧ (planeOf corner0 corner1 corner2).area2 = 1 ∧
    (planeOf corner0 corner1 corner2).covers (1 / 2) (1 / 2) = true ∧
    (planeOf corner0 corner1 corner1).area2 = 0 := by decide +kernel

theorem test_witness_OpaqueTriangleFillsItsCoverage : State.reset.mode = .opaqueMode ∧
    vertexFinite corner0 = true ∧ vertexFinite corner1 = true ∧ vertexFinite corner2 = true ∧
    (planeOf corner0 corner1 corner2).area2 ≠ 0 ∧
    culls 2 (planeOf corner0 corner1 corner2).area2 (reg State.reset .fpuCullVal) = false ∧
    vertexFinite (vertexOfWords 0x3F800000 0x3F800000 0) = true := by decide +kernel

theorem test_witness_PixelRulesOfTheModes : [RenderMode.opaqueMode, .punchthroughPass0, .punchthroughPassN,
    .translucentAutosort, .translucentPresort, .modifier].map (fun m => (blockState m 0 0).mode) =
    [.opaqueMode, .punchthroughPass0, .punchthroughPassN, .translucentAutosort, .translucentPresort, .modifier] := by
  decide +kernel

theorem test_witness_PassNNeverWrites :
    let s := allPixel { Pixel.powerOn with depthRef := 0x3F800000, depthPrev := 0x3F800000 }
      { State.reset with mode := .punchthroughPassN }
    Instr.format (.strip 0 7 true 0x3F) = .objectList ∧ s.mode = .punchthroughPassN ∧
    (∀ j, (pixel s j).depthRef = (pixel s j).depthPrev) ∧
    nextIs (exec (.strip 0 7 true 0x3F) s) (fun t => t.errors.length == 6) = true :=
  ⟨rfl, rfl, fun j => by simp [pixel, allPixel], by decide +kernel⟩

theorem test_witness_AutosortOrderIndependent :
    let l : List (Word × Word) := [(0x3F800000, 5), (0x3F800000, 6), (0x80000000, 5)]
    l.Perm [(0x80000000, 5), (0x3F800000, 6), (0x3F800000, 5)] ∧ (∀ f ∈ l, f32NaN f.1 = false) ∧
    l.Pairwise (fun f g => ¬ (f32Eq f.1 g.1 = true ∧ f.2 = g.2)) := by
  refine ⟨(List.reverse_perm _).symm, ?_, ?_⟩
  · simp only [List.forall_mem_cons, List.not_mem_nil, false_implies, implies_true, and_true]
    decide
  · simp only [List.pairwise_cons, List.forall_mem_cons, List.not_mem_nil, false_implies, implies_true,
      List.Pairwise.nil, and_true]
    decide

theorem test_witness_PeelStaysAboveReference :
    let s := allPixel { Pixel.powerOn with depthRef := 0x3F800000, depthTest := 0x3F800000 }
      { State.reset with mode := .translucentAutosort }
    (∀ j, (f32Lt (pixel s j).depthRef (pixel s j).depthTest ||
      f32Eq (pixel s j).depthRef (pixel s j).depthTest) = true) ∧
    Instr.format (.link 0x3FFFFF) = .objectList ∧ ∃ t, exec (.link 0x3FFFFF) s = .next t := by
  refine ⟨fun j => ?_, rfl, _, rfl⟩
  have h : pixel (allPixel { Pixel.powerOn with depthRef := 0x3F800000, depthTest := 0x3F800000 }
      { State.reset with mode := .translucentAutosort }) j =
      { Pixel.powerOn with depthRef := 0x3F800000, depthTest := 0x3F800000 } := by simp [pixel, allPixel]
  rw [h]
  decide

theorem test_witness_PresortWritesColourOnly : (blockState .translucentPresort 0 0).mode = .translucentPresort ∧
    Instr.format (.qarray 0 0 false 15) = .objectList ∧
    nextIs (exec (.qarray 0 0 false 15) (blockState .translucentPresort 0 0)) (fun t => t.errors.length == 16)
    = true := by decide +kernel

theorem test_witness_IspCodes : f32NaN 0x7F800001 = true ∧ f32NaN 0x7F800000 = false ∧ f32NaN 0xFF7FFFFF = false ∧
    decode .depthMode 0xFFFFFFFF = .ok .depthAlways ∧ decode .cullMode 0xFFFFFFFF = .ok .cullPositive := by
  decide

theorem test_witness_ColourArithmetic : bits (0x20000000 : Word) 31 29 = 1 ∧ bits (0x20000000 : Word) 28 26 = 0 := by
  decide

theorem test_witness_ColourCodes : f32Finite 0x7F7FFFFF = true ∧ f32Finite 0x7F800000 = false ∧
    decode .srcInstr 0xFFFFFFFF = .ok .srcInvdstalpha ∧ decode .dstInstr 0xFFFFFFFF = .ok .dstInvdstalpha ∧
    decode .filterMode 0xFFFFFFFF = .ok .filterBilinear3 ∧ decode .shadInstr 0xFFFFFFFF = .ok .shadModulatealpha ∧
    decode .fogCtrl 0xFFFFFFFF = .ok .fogTablealpha ∧ vertexFinite corner0 = true ∧ vertexFinite corner1 = true ∧
    vertexFinite corner2 = true ∧ (planeOf corner0 corner1 corner2).area2 ≠ 0 := by decide +kernel

theorem test_witness_FogTableAlphaInRange : f32Finite 0x3F800000 = true ∧
    ((((reg fogState .fogDensity).extractLsb' 8 8).toNat : Rat) / 128 *
      (2 : Rat) ^ ((reg fogState .fogDensity).extractLsb' 0 8).toInt) * f32Value 0x3F800000 ≤ 1 := by
  have h : reg fogState .fogDensity = 0x8000 := by decide +kernel
  rw [h, show f32Value 0x3F800000 = 1 by decide +kernel, show ((0x8000 : Word).extractLsb' 8 8).toNat = 128 by decide,
    show ((0x8000 : Word).extractLsb' 0 8).toInt = 0 by decide]
  exact ⟨by decide, by norm_num⟩

theorem test_witness_RoundingIsNearestEven : f32Finite (rne32 (1 + 1 / 2 ^ 24)) = true ∧ f32Finite 0x3F800001 = true ∧
    |f32Value (rne32 (1 + 1 / 2 ^ 24)) - (1 + 1 / 2 ^ 24)| = |f32Value 0x3F800001 - (1 + 1 / 2 ^ 24)| ∧
    f32Value 0x3F800001 ≠ f32Value (rne32 (1 + 1 / 2 ^ 24)) ∧ f32Finite 0x7F7FFFFF = true ∧
    (0x7F7FFFFF : Word) ≠ 0x80000000 := by
  have h : rne32 (1 + 1 / 2 ^ 24) = 0x3F800000 := by decide +kernel
  rw [h, show f32Value 0x3F800000 = 1 by decide +kernel, show f32Value 0x3F800001 = 1 + 1 / 2 ^ 23 by decide +kernel]
  refine ⟨by decide, by decide, ?_, by norm_num, by decide, by decide⟩
  rw [abs_of_neg (by norm_num), abs_of_pos (by norm_num)]
  norm_num

theorem test_witness_RoundingIsNearestEven_overflow : (2 : Rat) ^ 128 - 2 ^ 103 ≤ 2 ^ 128 - 2 ^ 103 ∧
    (2 : Rat) ^ 128 - 2 ^ 103 ≤ 2 ^ 200 := by norm_num

theorem test_witness_FilterCodes : decode .pixelFmt 0x37FFFFFF = .ok (.fmtPal8 63 0x1FFFFF) ∧
    (0x37FFFFFF : Word).extractLsb' 27 3 ≠ 7#3 := by decide

theorem test_witness_SamplingArithmetic : 0 < 1 ∧ 256 ≤ 256 := by decide

theorem test_witness_TexelIndexCodes : (0x83FFFFFF : Word).getLsbD 26 = false ∧
    ((0x2C000000 : Word).extractLsb' 27 3).toNat = 5 ∧ (0x34000000 : Word).getLsbD 26 = true ∧
    ((0x34000000 : Word).extractLsb' 27 3).toNat = 6 ∧ (0x04000000 : Word).getLsbD 26 = true ∧
    ((0x04000000 : Word).extractLsb' 27 3).toNat = 0 ∧ decode .scanOrder 0x04000000 = .ok (.tcwStrideScan false) := by
  decide

theorem test_witness_TwiddleTables : 10 ≤ 10 ∧ 1023 < 2 ^ 10 ∧ 0 < 2 ^ 0 := by decide

theorem test_witness_TagPassPixel :
    let s := allPixel { Pixel.powerOn with tag := 5 } State.reset
    (pixel State.reset 0).tag = reg State.reset .ispBackgndT &&& 0x1FFFFFFF ∧
    ¬ ((pixel s 1023).tag = reg s .ispBackgndT &&& 0x1FFFFFFF ∨ (pixel s 1023).tag = 0xFFFFFFFF) ∧
    (pixel s 1023).status.getLsbD 0 = false ∧
    ∃ u, shade (resolve (pixel s 1023).tag s).1 1023 (resolve (pixel s 1023).tag s).2 = .next u := by
  have k : ∀ h : Header, bit h.isp 25 = false → shadeable h := fun h hb ht => by rw [hb] at ht; cases ht
  exact ⟨by decide +kernel, by decide +kernel, by decide +kernel, shade_completes (k _ (by decide +kernel)) _ _⟩

theorem test_witness_TwoVolumeSelection :
    let p : DrawParameters := ⟨⟨true, 0, 1, 0, 2, 0⟩, corner0, corner1, corner2, none, 0x08000000⟩
    p.hdr.twoVolume = true ∧ ∃ a b, shadeSet p false { State.reset with pix := 1023 } = .next a ∧
      shadeSet p true a = .next b := by
  refine ⟨rfl, ?_⟩
  have k : ∀ second s, ∃ t, shadeSet ⟨⟨true, 0, 1, 0, 2, 0⟩, corner0, corner1, corner2, none, 0x08000000⟩ second s =
      .next t := fun second s => shadeSet_completes (fun h => absurd h (by decide +kernel)) s
  obtain ⟨a, ha⟩ := k false { State.reset with pix := 1023 }
  obtain ⟨b, hb⟩ := k true a
  exact ⟨a, b, ha, hb⟩

theorem test_witness_TwoVolumeSelection_one_volume :
    (DrawParameters.mk ⟨false, 0, 0, 0, 0, 0⟩ corner0 corner1 corner2 none 0).hdr.twoVolume = false := rfl

theorem test_witness_PackCodesInFrame : (atCtl .checkPack).ctl = .checkPack := rfl

theorem test_witness_WritebackStoresTile : Memory.wf writebackState.vram = true ∧ writebackState.ctl = .writeback ∧
    (∀ j : Fin 1024, 1023 < j → pvrMap32 (pixelAddress writebackState 4 j % 0x800000) ≠
      pvrMap32 (pixelAddress writebackState 4 1023 % 0x800000)) ∧
    ∀ i : Fin 1024, pvrMap32 (pixelAddress writebackState 4 i % 0x800000) + 4 ≤ 0x800000 := by
  refine ⟨by decide +kernel, by decide +kernel, fun j hj => ?_, fun i => ?_⟩
  · have h1 := j.isLt
    have h2 : (1023 : Fin 1024).val < j.val := hj
    simp at h2
    omega
  · have h := physical_word (pixelAddress_word writebackState i)
    unfold physical at h
    have hv : vramSize = 0x800000 := rfl
    rw [hv] at h
    omega

theorem test_witness_WritebackStoresTile_pack1 : Memory.wf writebackState.vram = true ∧ writebackState.ctl = .writeback ∧
    (∀ j : Fin 1024, 1022 < j → pvrMap32 (pixelAddress writebackState 2 j % 0x800000) ≠
      pvrMap32 (pixelAddress writebackState 2 1022 % 0x800000)) ∧
    ∀ i : Fin 1024, pvrMap32 (pixelAddress writebackState 2 i % 0x800000) + 2 ≤ 0x800000 := by
  refine ⟨by decide +kernel, by decide +kernel, fun j hj => ?_, fun i => ?_⟩
  · have h2 : (1022 : Fin 1024).val < j.val := hj
    have h3 : (1022 : Fin 1024).val = 1022 := rfl
    obtain rfl : j = 1023 := Fin.ext (by
      have h1 := j.isLt
      have h4 : (1023 : Fin 1024).val = 1023 := rfl
      omega)
    decide +kernel
  · have h := physical_even (pixelAddress_even writebackState i)
    unfold physical at h
    have hv : vramSize = 0x800000 := rfl
    rw [hv] at h
    omega

end Sys2Proof.Tests
end

section
/-! SUPPORT. What `exec` and `step` can do, said once: `ExecEffect` sorts the 81 rows of the table by their effect on
the state, `step_eq_next` takes one step apart. -/

namespace Sys2Proof.Machine

/-! ### Writing the tile back -/

/-- Pixel writes, one after the other, change VRAM and the errors only (R510). -/
theorem onlyWrites_foldl {f : Fin 1024 → State → State} (hf : ∀ i u, OnlyWrites u (f i u)) (l : List (Fin 1024))
    (s : State) : OnlyWrites s (l.foldl (fun t i => f i t) s) := by
  induction l generalizing s with
  | nil => exact OnlyWrites.refl s
  | cons i l ih => exact (hf i s).trans (ih (f i s))

theorem onlyWrites_writeback565 (s : State) : OnlyWrites s (writeback565 s) :=
  onlyWrites_foldl (fun _ u => onlyWrites_write16 _ _ u) allPixels s

theorem onlyWrites_writeback8888 (s : State) : OnlyWrites s (writeback8888 s) :=
  onlyWrites_foldl (fun _ u => onlyWrites_write32 _ _ u) allPixels s

theorem OnlyWrites.regs_eq {s t : State} (h : OnlyWrites s t) : t.regs = s.regs := by
  rw [h]

/-! ### The operand codes of the ISP -/

theorem quietFrame_evalDepth (k : Nat) (s : State) : QuietFrame s (evalDepth k s) := quietFrame_isp _ s

theorem quietFrame_evalCull (k : Nat) (s : State) : QuietFrame s (evalCull k s) := quietFrame_isp _ s

/-! ### What drawing and executing can do -/

/-- `t` is reached from `s` by drawing: every relation the elementary changes of drawing in the mode of `s` keep
relates them. -/
def Draws (s t : State) : Prop := ∀ R, DrawLaw s.mode R → R s t

/-- Drawing is inside its frame. -/
theorem Draws.drawFrame {s t : State} (h : Draws s t) : DrawFrame s t := h DrawFrame (drawLaw_frame s.mode)

/-- What executing an instruction can make of the state. -/
inductive ExecEffect (s : State) : State → Prop
  /-- A word of a region-array entry: it fills the entry and moves the driver on (R240). -/
  | entryWord (e : RegionEntry) (k : Nat) (c : Ctl) : ExecEffect s { s with entry := e, ptrIndex := k, ctl := c }
  /-- A primitive entry or a reserved one: it draws, and the walk goes on behind it (R245, R249). -/
  | drawn {u : State} (h : Draws s u) : ExecEffect s (nextEntry u)
  /-- LINK (R247). -/
  | linked (a : Nat) : ExecEffect s { s with listPtr := a }
  /-- LINK_END (R247). -/
  | listEnd : ExecEffect s { s with ctl := s.resume }
  /-- An operand code that works on the units' registers. -/
  | quiet {t : State} (h : QuietFrame s t) : ExecEffect s t
  /-- VOL_OR (R352). -/
  | foldOr : ExecEffect s (summarizeStencilOr s)
  /-- VOL_AND (R353). -/
  | foldAnd : ExecEffect s (summarizeStencilAnd s)
  /-- A DST code (R461). -/
  | blended (k : Nat) : ExecEffect s (evalDst k s)
  /-- An unsupported pack code (R601). -/
  | aborted : ExecEffect s (abortFrame .fbPackmode s)
  /-- A supported pack code (R231, R601). -/
  | packed {write : State → State} (h : ∀ u, OnlyWrites u (write u)) : ExecEffect s (supportedPack write s)

/-- An operation that only shades has a quiet effect. -/
theorem ShadeFrame.effect {s t : State} (h : ShadeFrame s t) : ExecEffect s t := .quiet h.quiet

/-- A traversal that reaches a next state is what the entry does (R329). -/
theorem traversing_next {f : State → Res} {s t : State} (h : traversing f s = .next t) : f s = .next t := by
  unfold traversing at h
  split at h
  · cases h
  · exact h

/-- An entry that draws and then moves the walk on. -/
theorem drawnEntry_effect {draw : State → Res} {s t : State} (hd : ∀ u, draw s = .next u → Draws s u)
    (h : traversing (fun s => andThen (draw s) fun s1 => .next (nextEntry s1)) s = .next t) : ExecEffect s t := by
  obtain ⟨u, hu, h⟩ := andThen_eq_next.1 (traversing_next h)
  cases h
  exact .drawn (hd u hu)

theorem renderStrip_draws {offs skip : Nat} {shadow : Bool} {mask : Nat} {s t : State}
    (h : renderStrip offs skip shadow mask s = .next t) : Draws s t :=
  fun _ L => (L.renderStrip h rfl).1

theorem renderArray_draws {n skip : Nat} {shadow : Bool} {count o : Nat} {s t : State}
    (h : renderArray n skip shadow count o s = .next t) : Draws s t :=
  fun _ L => (L.renderArray h rfl).1

/-- A report is drawing (R249). -/
theorem report_draws (e : FrameError) (s : State) : Draws s (report e s) :=
  fun _ L => L.quiet _ _ (shadeFrame_report e s).quiet

/-- Everything an instruction that completes can do. -/
theorem exec_effect {i : Instr} {s t : State} (h : exec i s = .next t) : ExecEffect s t := by
  cases i with
  | region | ptr | ptrEmpty => cases h; exact .entryWord _ _ _
  | strip => exact drawnEntry_effect (fun _ => renderStrip_draws) h
  | tarray | qarray => exact drawnEntry_effect (fun _ => renderArray_draws) h
  | reserved110 => unfold exec execReserved110 at h; cases traversing_next h; exact .drawn (report_draws _ s)
  | link => unfold exec execLink at h; cases traversing_next h; exact .linked _
  | linkEnd => unfold exec execLinkEnd at h; cases traversing_next h; exact .listEnd
  | depthNever | depthLess | depthEqual | depthLessequal
  | depthGreater | depthNotequal | depthGreaterequal | depthAlways =>
    cases h; exact .quiet (quietFrame_evalDepth _ s)
  | cullNone | cullSmall | cullNegative | cullPositive => cases h; exact .quiet (quietFrame_evalCull _ s)
  | volNone => cases h; exact (ShadeFrame.refl s).effect
  | volOr => cases h; exact .foldOr
  | volAnd => cases h; exact .foldAnd
  | volReserved3 | volReserved4 | volReserved5 | volReserved6 | volReserved7 => cases h
  | srcZero | srcOne | srcOther | srcInvother | srcSrcalpha | srcInvsrcalpha | srcDstalpha | srcInvdstalpha =>
    cases h; exact (shadeFrame_evalSrc _ s).effect
  | dstZero | dstOne | dstOther | dstInvother | dstSrcalpha | dstInvsrcalpha | dstDstalpha | dstInvdstalpha =>
    cases h; exact .blended _
  | fogTable | fogVertex | fogNone | fogTablealpha => cases h; exact (shadeFrame_evalFog _ s).effect
  | filterPoint | filterBilinear1 | filterBilinear2 | filterBilinear3 =>
    cases h; exact (shadeFrame_evalFilter _ s).effect
  | shadDecal | shadModulate | shadDecalalpha | shadModulatealpha => cases h; exact (shadeFrame_evalShad _ s).effect
  | fmtArgb1555 => cases h; exact (shadeFrame_evalArgb1555 _ s).effect
  | fmtRgb565 => cases h; exact (shadeFrame_evalRgb565 _ s).effect
  | fmtArgb4444 => cases h; exact (shadeFrame_evalArgb4444 _ s).effect
  | fmtYuv422 => cases h; exact (shadeFrame_evalYuv422 _ s).effect
  | fmtBump => cases h; exact (shadeFrame_evalBump _ s).effect
  | fmtPal4 => cases h; exact (shadeFrame_evalPal4 _ _ s).effect
  | fmtPal8 => cases h; exact (shadeFrame_evalPal8 _ _ s).effect
  | fmtReserved7 | tcwVq => cases h
  | tcwTwiddled => cases h; exact (shadeFrame_evalTwiddled s).effect
  | tcwStrideScan => cases h; exact (shadeFrame_evalStrideScan _ s).effect
  | tcwMipmapped => cases h; exact (shadeFrame_evalMip s).effect
  | palArgb1555 | palRgb565 | palArgb4444 | palArgb8888 => cases h; exact (shadeFrame_evalPalette _ s).effect
  | pack0Unsupported | pack2Unsupported | pack3Unsupported | pack4Unsupported | pack5Unsupported
  | pack7Unsupported => cases h; exact .aborted
  | pack1Rgb565 => cases h; exact .packed onlyWrites_writeback565
  | pack6Argb8888 => cases h; exact .packed onlyWrites_writeback8888

/-! ### One step -/

/-- A fetch reports at most (R95). -/
theorem shadeFrame_fetchState (src : FetchSource) (s : State) : ShadeFrame s (fetchState src s) := by
  cases src with
  | vram a => exact shadeFrame_touch a s
  | register r => exact ShadeFrame.refl s

/-- A fetch reaches a next state through the instruction its word decodes to. -/
theorem stepFetch_eq_next {f : Format} {src : FetchSource} {s t : State} :
    stepFetch f src s = .next t ↔ fetchAligned src = true ∧ ∃ i u, decode f (fetchWord src s) = .ok i ∧
      exec i (fetchState src s) = .next u ∧ leaveOperand u = t := by
  unfold stepFetch
  split
  · rename_i ha
    cases decode f (fetchWord src s) with
    | ok i => simp [ha, andThen_eq_next]
    | error e => simp
  · rename_i ha
    simp [ha]

/-- A step reaches a next state by fetching at a fetch point, or else by the driver's action. -/
theorem step_eq_next {s t : State} :
    step s = .next t ↔ (∃ f src, fetchPoint s = some (f, src) ∧ stepFetch f src s = .next t) ∨
      (fetchPoint s = none ∧ driverStep s = .next t) := by
  unfold step
  cases fetchPoint s with
  | none => simp
  | some p => obtain ⟨f, src⟩ := p; simp

end Sys2Proof.Machine
end

section
/-! PROOF. R35: no step writes a register. -/

namespace Sys2Proof.Machine

/-! ### Instructions -/

theorem supportedPack_regs {write : State → State} (h : ∀ u, OnlyWrites u (write u)) (s : State) :
    (supportedPack write s).regs = s.regs := by
  unfold supportedPack
  split
  · rfl
  · exact (h s).regs_eq
  · exact (h s).regs_eq

theorem ExecEffect.regs_eq {s t : State} (h : ExecEffect s t) : t.regs = s.regs := by
  cases h with
  | drawn h => exact h.drawFrame.regs
  | quiet h => exact h.regs
  | blended k => exact (drawFrame_evalDst k s).regs
  | packed h => exact supportedPack_regs h s
  | entryWord | linked | listEnd | foldOr | foldAnd | aborted => rfl

@[simp] theorem leaveOperand_regs (s : State) : (leaveOperand s).regs = s.regs := by
  unfold leaveOperand
  split <;> rfl

theorem stepFetch_regs {f : Format} {src : FetchSource} {s t : State} (h : stepFetch f src s = .next t) :
    t.regs = s.regs := by
  obtain ⟨-, i, u, -, hu, rfl⟩ := stepFetch_eq_next.1 h
  calc (leaveOperand u).regs = u.regs := leaveOperand_regs u
    _ = (fetchState src s).regs := (exec_effect hu).regs_eq
    _ = s.regs := (shadeFrame_fetchState src s).regs

/-! ### The pass driver's actions -/

@[simp] theorem beginFrame_regs (s : State) : (beginFrame s).regs = s.regs := rfl

@[simp] theorem checkScaler_regs (s : State) : (checkScaler s).regs = s.regs := by
  simp only [checkScaler, apply_ite State.regs, abortFrame_regs, ite_self]

@[simp] theorem tileSetup_regs (s : State) : (tileSetup s).regs = s.regs := by
  simp only [tileSetup, apply_ite State.regs, mapTile_regs, ite_self]

@[simp] theorem traverse_regs (p : ListPointer) (m : RenderMode) (k : Ctl) (s : State) :
    (traverse p m k s).regs = s.regs := by
  simp only [traverse, apply_ite State.regs, mapTile_regs, ite_self]

@[simp] theorem traverseUnlessEmpty_regs (p : ListPointer) (m : RenderMode) (k : Ctl) (s : State) :
    (traverseUnlessEmpty p m k s).regs = s.regs := by
  simp only [traverseUnlessEmpty, apply_ite State.regs, traverse_regs, ite_self]

@[simp] theorem opaqueStart_regs (s : State) : (opaqueStart s).regs = s.regs := by
  simp only [opaqueStart, apply_ite State.regs, traverse_regs, ite_self]

@[simp] theorem ptStart_regs (s : State) : (ptStart s).regs = s.regs := by
  simp only [ptStart, apply_ite State.regs, mapTile_regs, ite_self]

@[simp] theorem ptIterate_regs (s : State) : (ptIterate s).regs = s.regs := by
  simp only [ptIterate, traverse_regs, mapTile_regs]

@[simp] theorem ptTest_regs (s : State) : (ptTest s).regs = s.regs := by
  simp only [ptTest, apply_ite State.regs, mapTile_regs, ite_self]

@[simp] theorem ptModStart_regs (s : State) : (ptModStart s).regs = s.regs := by
  simp only [ptModStart, apply_ite State.regs, traverse_regs, ite_self]

@[simp] theorem transStart_regs (s : State) : (transStart s).regs = s.regs := by
  simp only [transStart, apply_ite State.regs, traverse_regs, mapTile_regs, ite_self]

@[simp] theorem sortIterate_regs (s : State) : (sortIterate s).regs = s.regs := by
  simp only [sortIterate, traverse_regs, mapTile_regs]

@[simp] theorem sortTest_regs (s : State) : (sortTest s).regs = s.regs := rfl

@[simp] theorem endEntry_regs (s : State) : (endEntry s).regs = s.regs := by
  simp only [endEntry, apply_ite State.regs, finishFrame_regs, report_regs, ite_self]

/-- A tag pass (R400). -/
theorem renderTagsThen_regs {m : RenderMode} {k : Ctl} {s t : State} (h : renderTagsThen m k s = .next t) :
    t.regs = s.regs := by
  obtain ⟨u, hu, h⟩ := andThen_eq_next.1 h
  cases h
  exact ((tagLaw_frame m).renderParamTags hu).regs

theorem driverStep_regs {s t : State} (h : driverStep s = .next t) : t.regs = s.regs := by
  cases hc : s.ctl with simp only [driverStep, hc, Host.Outcome.next.injEq] at h
  | opaqueTags | ptMvTags | sortTags => exact renderTagsThen_regs h
  | ptTags => exact renderTagsThen_regs (s := { s with ptIteration := s.ptIteration + 1 }) h
  | _ => subst h; simp

/-- Settles O11: a fetch executes an instruction, whose effect leaves the registers alone; so does every action of the
pass driver. -/
theorem registersAreNeverWritten : Obligations.RegistersAreNeverWritten := by
  intro s t h
  rcases step_eq_next.1 h with ⟨f, src, -, hf⟩ | ⟨-, hd⟩
  · exact stepFetch_regs hf
  · exact driverStep_regs hd

end Sys2Proof.Machine
end

section
/-! PROOF. R38: the derived register values. -/

namespace Sys2Proof

/-- A field left at its place in the word is the word under the field's mask. -/
theorem bits_mul_eq_and (w : Word) {hi lo : Nat} (h : hi < 32) (hl : lo ≤ hi) :
    bits w hi lo * 2 ^ lo = (w &&& BitVec.ofNat 32 ((2 ^ (hi + 1 - lo) - 1) * 2 ^ lo)).toNat := by
  apply Nat.eq_of_testBit_eq
  intro j
  simp only [bits, BitVec.toNat_and, BitVec.toNat_ofNat, Nat.testBit_and, Nat.testBit_mul_two_pow,
    Nat.testBit_mod_two_pow, Nat.testBit_div_two_pow, Nat.testBit_two_pow_sub_one]
  by_cases hj : lo ≤ j
  · by_cases hk : j - lo < hi + 1 - lo
    · have h32 : j < 32 := by omega
      simp [hj, hk, h32]
    · simp [hk]
  · simp [hj]

/-- The pack mode is read from the low three bits (R37). -/
theorem decodePack_low (w : Word) : decodePack ((w.extractLsb' 0 3).setWidth 32) = decodePack w := by
  have hb : bits ((w.extractLsb' 0 3).setWidth 32) 2 0 = bits w 2 0 := by
    simp [bits]
  unfold decodePack
  rw [hb]

namespace Machine

/-- Settles O10: each value is a field of its register, read as a slice, a bit or the register under a mask. -/
theorem derivedRegisterValues : Obligations.DerivedRegisterValues := by
  intro s
  have hbg : bits (reg s .ispBackgndT) 28 0 = (reg s .ispBackgndT &&& 0x1FFFFFFF).toNat :=
    (Nat.mul_one _).symm.trans (bits_mul_eq_and _ (by decide) (by decide))
  exact ⟨bits_mul_eq_and _ (by decide) (by decide), bits_mul_eq_and _ (by decide) (by decide),
    by rw [entryWords, bit_eq_getLsbD], by rw [twoVolumeEn, bit_eq_getLsbD], bit_eq_getLsbD _ 0,
    by rw [bgTag, hbg, BitVec.ofNat_toNat, BitVec.setWidth_eq], rfl, bits_eq_extract _ 7 0,
    by rw [strideBytes, bits_eq_extract], by rw [decode, decode, decodePack_low]⟩

end Machine
end Sys2Proof
end

section
/-! PROOF. Accesses to VRAM (20_memory.md sections 2 and 3): the report of an address at or above 8 MiB, the address
reduced to 23 bits, and the bytes a write leaves. -/

namespace Sys2Proof.Machine

/-! ### The report and the reduction of an address -/

/-- All that one access does (R95). -/
theorem touch_eq (a : Nat) (s : State) :
    touch a s = { s with errors := s.errors ++ if vramSize ≤ a then [.addressOutOfRange a] else [] } := by
  simpa [touchAll] using touchAll_eq [a] s

theorem physical_mod (a : Nat) : physical (a % vramSize) = physical a :=
  congrArg pvrMap32 (Nat.mod_mod a vramSize)

theorem store16_mod (m : List Host.Cell) (a : Nat) (v : Half) : store16 m (a % vramSize) v = store16 m a v := by
  rw [store16, store16, physical_mod]

theorem store32_mod (m : List Host.Cell) (a : Nat) (v : Word) : store32 m (a % vramSize) v = store32 m a v := by
  rw [store32, store32, physical_mod]

/-! ### The bytes a write leaves -/

/-- The low byte `W16` writes (R97). -/
theorem ofNat_toNat_eq_extract (v : Half) : BitVec.ofNat 8 v.toNat = v.extractLsb' 0 8 := by
  rw [BitVec.extractLsb', Nat.shiftRight_zero]

/-- The high byte `W16` writes (R97). -/
theorem ofNat_div_eq_extract (v : Half) : BitVec.ofNat 8 (v.toNat / 2 ^ 8) = v.extractLsb' 8 8 := by
  rw [BitVec.extractLsb', Nat.shiftRight_eq_div_pow]

/-- What every byte is after a 16-bit store, the low byte first (R97). -/
theorem Memory.read_store16_eq_extract {m : List Host.Cell} (hm : Memory.wf m = true) {a : Nat} (h : a % 2 = 0)
    (v : Half) (q : Nat) : Memory.read (store16 m a v) q =
      if q = physical a then v.extractLsb' 0 8
      else if q = physical a + 1 then v.extractLsb' 8 8 else Memory.read m q := by
  rw [read_store16 hm h, ofNat_toNat_eq_extract, ofNat_div_eq_extract, ite_ite_comm]
  omega

/-- What every byte is after a 32-bit store, the lowest byte first (R97). -/
theorem Memory.read_store32_eq_extract {m : List Host.Cell} (hm : Memory.wf m = true) {a : Nat} (h : a % 4 = 0)
    (v : Word) (q : Nat) : Memory.read (store32 m a v) q =
      if q = physical a then v.extractLsb' 0 8
      else if q = physical a + 1 then v.extractLsb' 8 8
      else if q = physical a + 2 then v.extractLsb' 16 8
      else if q = physical a + 3 then v.extractLsb' 24 8 else Memory.read m q := by
  simp only [read_store32 hm h, byteOfWord_eq_extract]
  by_cases hin : physical a ≤ q ∧ q < physical a + 4
  · obtain ⟨k, rfl⟩ := Nat.exists_eq_add_of_le hin.1
    have hk : k < 4 := by omega
    interval_cases k <;> simp
  · have h0 : q ≠ physical a := by omega
    have h1 : q ≠ physical a + 1 := by omega
    have h2 : q ≠ physical a + 2 := by omega
    have h3 : q ≠ physical a + 3 := by omega
    simp only [h0, h1, h2, h3, if_false]

/-- Settles O8: VRAM after a write is the store's, whose bytes are known, and the access adds its report. -/
theorem storesWriteTheirBytes : Obligations.StoresWriteTheirBytes := by
  intro s a hm
  refine ⟨fun ha v => ⟨fun q => ?_, ?_⟩, fun ha v => ⟨fun q => ?_, ?_⟩⟩
  · rw [write16_vram]
    exact Memory.read_store16_eq_extract hm ha v q
  · rw [write16_vram]
    exact touch_eq a _
  · rw [write32_vram]
    exact Memory.read_store32_eq_extract hm ha v q
  · rw [write32_vram]
    exact touch_eq a _

/-- Settles O7: reads and stores go through `physical`, which reduces the address; a fetch is a 32-bit read and its
access. -/
theorem accessesAreMasked : Obligations.AccessesAreMasked :=
  ⟨fun m a => ⟨wordOfBytes_eq_append _ _ _ _, rfl, fun v => (store16_mod m a v).symm, fun v => (store32_mod m a v).symm⟩,
    fun s a => ⟨touch_eq a s, rfl, rfl⟩⟩

end Sys2Proof.Machine
end

section
/-! PROOF. R125: the type of an object-list entry, and what its word decodes to with the fields of each type (R126 to
R130). -/

namespace Sys2Proof

/-! ### The type field -/

/-- The type of an entry whose bit 31 is clear is none of the four R125 names. -/
theorem bits_type_lt_four {w : Word} (h : w.getLsbD 31 = false) : bits w 31 29 < 4 := by
  have hbit : w.toNat.testBit 31 = false := h
  rw [Nat.testBit_eq_decide_div_mod_eq, decide_eq_false_iff_not] at hbit
  have hw : w.toNat < 2 ^ 32 := w.isLt
  unfold bits
  omega

/-- The type field as the number `decodeObject` branches on. -/
theorem bits_type_of_extract {w : Word} {t : BitVec 3} (h : w.extractLsb' 29 3 = t) : bits w 31 29 = t.toNat :=
  (bits_eq_extract w 31 29).trans (congrArg BitVec.toNat h)

/-! ### The entry of each type -/

theorem decodeObject_of_type_lt_four {w : Word} (h : bits w 31 29 < 4) :
    decodeObject w = .strip (bits w 20 0) (bits w 23 21) (bit w 24) (bits w 30 25) := by
  unfold decodeObject
  split
  case h_5 => rfl
  all_goals omega

theorem decodeObject_of_type_four {w : Word} (h : bits w 31 29 = 4) :
    decodeObject w = .tarray (bits w 20 0) (bits w 23 21) (bit w 24) (bits w 28 25) := by
  simp only [decodeObject, h]

theorem decodeObject_of_type_five {w : Word} (h : bits w 31 29 = 5) :
    decodeObject w = .qarray (bits w 20 0) (bits w 23 21) (bit w 24) (bits w 28 25) := by
  simp only [decodeObject, h]

theorem decodeObject_of_type_six {w : Word} (h : bits w 31 29 = 6) :
    decodeObject w = .reserved110 (bits w 28 0) := by
  simp only [decodeObject, h]

theorem decodeObject_of_type_seven {w : Word} (h : bits w 31 29 = 7) :
    decodeObject w = if bit w 28 then .linkEnd (bits w 23 2) else .link (bits w 23 2) := by
  simp only [decodeObject, h]

/-- The two links share their type; bit 28 tells them apart (R129). -/
theorem decodeObject_link_or_linkEnd {w : Word} (h : bits w 31 29 = 7) :
    decodeObject w = .link (bits w 23 2) ∨ decodeObject w = .linkEnd (bits w 23 2) := by
  rw [decodeObject_of_type_seven h]
  cases bit w 28
  · exact .inl rfl
  · exact .inr rfl

/-- Settles O3: the top three bits select the branch of `decodeObject`, and a clear bit 31 leaves only the strip's. -/
theorem objectEntryTypes : Obligations.ObjectEntryTypes := by
  intro w
  refine ⟨fun h => ?strip, fun h => ?tarray, fun h => ?qarray, fun h => ?link, fun h => ?reserved⟩
  case strip => exact ⟨_, _, _, _, congrArg _ (decodeObject_of_type_lt_four (bits_type_lt_four h))⟩
  case tarray => exact ⟨_, _, _, _, congrArg _ (decodeObject_of_type_four (bits_type_of_extract h))⟩
  case qarray => exact ⟨_, _, _, _, congrArg _ (decodeObject_of_type_five (bits_type_of_extract h))⟩
  case link => exact ⟨_, (decodeObject_link_or_linkEnd (bits_type_of_extract h)).imp (congrArg _) (congrArg _)⟩
  case reserved => exact ⟨_, congrArg _ (decodeObject_of_type_six (bits_type_of_extract h))⟩

end Sys2Proof
end

section
/-! PROOF. R217 to R221 and R323: the actions of the punch-through loop, each the driver's position and one change of
every pixel. -/

namespace Sys2Proof.Machine

/-! ### The driver's actions -/

/-- Where no word is fetched a step is the driver's action. -/
theorem step_eq_driverStep {s : State} (h : fetchPoint s = none) : step s = driverStep s := by
  simp only [step, h]

theorem step_ptStart {s : State} (h : s.ctl = .ptStart) : step s = .next (ptStart s) := by
  rw [step_eq_driverStep (by simp only [fetchPoint, h])]
  simp only [driverStep, h]

theorem step_ptIterate {s : State} (h : s.ctl = .ptIterate) : step s = .next (ptIterate s) := by
  rw [step_eq_driverStep (by simp only [fetchPoint, h])]
  simp only [driverStep, h]

theorem step_ptTest {s : State} (h : s.ctl = .ptTest) : step s = .next (ptTest s) := by
  rw [step_eq_driverStep (by simp only [fetchPoint, h])]
  simp only [driverStep, h]

/-! ### The beginning of a traversal -/

/-- A traversal begins by setting the mode and the place of the walk (R202); the tile buffers are the only other thing
it may change (R323). -/
theorem traverse_frame (p : ListPointer) (m : RenderMode) (k : Ctl) (s : State) :
    traverse p m k s = { s with
      tile := (traverse p m k s).tile, mode := m, listPtr := p.address, resume := k, ctl := .walk } := by
  unfold traverse
  split <;> rfl

/-- Only a PUNCHTHROUGH_PASSN traversal remembers the depths as it begins (R323). -/
@[simp] theorem pixel_traverse (p : ListPointer) (m : RenderMode) (k : Ctl) (s : State) (i : Fin 1024) :
    pixel (traverse p m k s) i = { pixel s i with
      depthPrev := if m = .punchthroughPassN then (pixel s i).depthTest else (pixel s i).depthPrev } := by
  unfold traverse
  split
  · exact pixel_mapTile i _ _
  · rfl

/-! ### The punch-through loop -/

/-- Clearing bit 0 keeps the other bits (R218). -/
theorem getLsbD_clearBit0 (b : Byte) (k : Nat) :
    (clearBit0 b).getLsbD k = (decide (k ≠ 0) && b.getLsbD k) := by
  have hmask : ∀ j : Fin 8, (0xFE : Byte).getLsbD j = decide (j.val ≠ 0) := by decide
  rw [clearBit0, BitVec.getLsbD_and, Bool.and_comm]
  by_cases hk : k < 8
  · exact congrArg (· && b.getLsbD k) (hmask ⟨k, hk⟩)
  · simp [BitVec.getLsbD_of_ge b k (by omega)]

/-- The initialisation (R217). -/
theorem ptStart_of_list {s : State} (h : s.entry.ptList.empty = false) :
    ptStart s = { mapTile (fun p => { p with depthRef := fltMax }) s with ptIteration := 0, ctl := .ptIterate } :=
  if_neg (Bool.eq_false_iff.1 h)

/-- Beside the tile buffers an iteration begins by setting `more_to_draw`, the mode and the place of the walk (R218,
R219). -/
theorem ptIterate_frame (s : State) :
    ptIterate s = { s with
      tile := (ptIterate s).tile
      moreToDraw := false
      mode := if s.ptIteration = 0 then .punchthroughPass0 else .punchthroughPassN
      listPtr := s.entry.ptList.address
      resume := .ptTest
      ctl := .walk } :=
  traverse_frame _ _ _ _

/-- What the beginning of an iteration does at one pixel; from the second iteration on the traversal is a
PUNCHTHROUGH_PASSN one, which remembers the depth (R218, R219, R323). -/
@[simp] theorem pixel_ptIterate (s : State) (i : Fin 1024) :
    pixel (ptIterate s) i = { pixel s i with
      stencil := clearBit0 (pixel s i).stencil
      depthPrev := if s.ptIteration = 0 then (pixel s i).depthPrev else (pixel s i).depthTest } := by
  rw [ptIterate, pixel_traverse, pixel_mapTile]
  split <;> rfl

/-- The end of the loop (R220). -/
theorem ptTest_of_done {s : State} (h : s.moreToDraw = false) : ptTest s = { s with ctl := .ptModStart } :=
  if_neg (Bool.eq_false_iff.1 h)

/-- The copy before the tag pass (R221). -/
theorem ptTest_of_more {s : State} (h : s.moreToDraw = true) :
    ptTest s = { mapTile (fun p => { p with depthRef := p.depthTest }) s with ctl := .ptTags } :=
  if_pos h

/-- Settles O25: at each position the step is the driver's action, whose frame and pixels are known. -/
theorem punchThroughLoop : Obligations.PunchThroughLoop := by
  intro s hlist
  refine ⟨fun hc => ?init, fun hc => ?iterate, fun hc hdone => ?exit, fun hc hmore => ?copy⟩
  case init =>
    rw [step_ptStart hc, ptStart_of_list hlist]
    exact ⟨_, rfl, rfl, fun i => pixel_mapTile i _ s⟩
  case iterate =>
    refine ⟨ptIterate s, step_ptIterate hc, ptIterate_frame s, fun i => ⟨fun k => ?_, ?_⟩⟩
    · rw [pixel_ptIterate]
      exact getLsbD_clearBit0 (pixel s i).stencil k
    · rw [pixel_ptIterate]
  case exit => rw [step_ptTest hc, ptTest_of_done hdone]
  case copy =>
    rw [step_ptTest hc, ptTest_of_more hmore]
    exact ⟨_, rfl, rfl, fun i => pixel_mapTile i _ s⟩

end Sys2Proof.Machine
end

section
/-! PROOF. R247 and R249: the object-list entries that draw nothing move the walk. -/

namespace Sys2Proof.Machine

/-- A traversal that is not refused is what the entry does (R329). -/
theorem traversing_of_mode {s : State} (h : s.mode ≠ .punchthroughMv) (f : State → Res) : traversing f s = f s :=
  if_neg h

/-- The word the report of an unknown entry carries: its type before the 29 bits of the rest (R130, R249). -/
theorem ofNat_reserved110_eq_append (low : BitVec 29) :
    BitVec.ofNat 32 (low.toNat + 2 ^ 29 * 6) = 0b110#3 ++ low := by
  apply BitVec.eq_of_toNat_eq
  have hlow := low.isLt
  rw [BitVec.toNat_append, ← Nat.shiftLeft_add_eq_or_of_lt hlow, BitVec.toNat_ofNat, BitVec.toNat_ofNat,
    Nat.shiftLeft_eq]
  omega

/-- Settles O27: where a traversal runs each entry is its one change of the state. -/
theorem linksAndUnknownEntries : Obligations.LinksAndUnknownEntries := by
  intro s hmode
  refine ⟨fun n => ?link, fun n => ?linkEnd, fun low => ?reserved⟩
  case link => rw [exec, execLink, traversing_of_mode hmode]
  case linkEnd => rw [exec, execLinkEnd, traversing_of_mode hmode]
  case reserved =>
    rw [exec, execReserved110, traversing_of_mode hmode, ofNat_reserved110_eq_append]
    rfl

end Sys2Proof.Machine
end

section
/-! PROOF. R240, R200 and R49: the words of a region-array entry, one a step. After the control word the driver reads
the list pointers in order; `afterRegionWord s k` is the state after word `k`, and one induction over the words
reaches it. -/

namespace Sys2Proof.Machine

/-! ### Runs, and a step that fetches from VRAM -/

theorem andThen_assoc (o : Res) (f g : State → Res) :
    andThen (andThen o f) g = andThen o fun s => andThen (f s) g := by
  cases o <;> rfl

/-- A run's last step, taken apart from the steps before it. -/
theorem runSteps_succ_last (n : Nat) (s : State) : runSteps (n + 1) s = andThen (runSteps n s) step := by
  induction n generalizing s with
  | zero =>
    rw [runSteps, runSteps, andThen_next]
    cases step s <;> rfl
  | succ n ih =>
    calc runSteps (n + 2) s = andThen (step s) (runSteps (n + 1)) := rfl
      _ = andThen (step s) fun u => andThen (runSteps n u) step := congrArg (andThen (step s)) (funext ih)
      _ = andThen (runSteps (n + 1) s) step := (andThen_assoc _ _ _).symm

/-- A step that fetches an aligned word from VRAM executes what the word decodes to (R92, R96). -/
theorem step_of_fetch_vram {s t : State} {f : Format} {a : Nat} {i : Instr} (hp : fetchPoint s = some (f, .vram a))
    (ha : a % 4 = 0) (hd : decode f (word32 s.vram a) = .ok i) (he : exec i (touch a s) = .next t) :
    step s = .next (leaveOperand t) :=
  step_eq_next.2 (.inl ⟨f, .vram a, hp, stepFetch_eq_next.2 ⟨beq_iff_eq.2 ha, i, t, hd, he, rfl⟩⟩)

/-- The driver at no single operand code stays where it is (log 22). -/
theorem leaveOperand_of_ctl {s : State} (h : ∀ f a, s.ctl ≠ .operand f a) : leaveOperand s = s := by
  unfold leaveOperand
  split
  next f a hc => exact absurd hc (h f a)
  next => rfl

/-! ### The words of an entry -/

theorem entryWords_eq (s : State) : entryWords s = if (reg s .fpuParamCfg).getLsbD 21 then 6 else 5 := by
  rw [entryWords, bit_eq_getLsbD]

/-- A control word and at least four list pointers (R120, R123). -/
theorem five_le_entryWords (s : State) : 5 ≤ entryWords s := by
  unfold entryWords
  split <;> decide

theorem entryWords_eq_six_iff (s : State) : entryWords s = 6 ↔ (reg s .fpuParamCfg).getLsbD 21 = true := by
  simp [entryWords_eq]

/-- Word `k` of the entry at `regionPtr` (R120). -/
def regionWord (s : State) (k : Nat) : Word := word32 s.vram (s.regionPtr + 4 * k)

/-- A word read as a list pointer (R122). -/
def pointerOfWord (w : Word) : ListPointer := ⟨w.getLsbD 31, (w &&& 0x00FFFFFC).toNat⟩

/-- The entry as its control word leaves it (R121, R123, R124). -/
def openedEntry (s : State) (w : Word) : RegionEntry :=
  { s.entry with
    tilex := (w.extractLsb' 2 6).toNat
    tiley := (w.extractLsb' 8 6).toNat
    noWriteout := w.getLsbD 28
    preSort := if (reg s .fpuParamCfg).getLsbD 21 then w.getLsbD 29 else (reg s .ispFeedCfg).getLsbD 0
    zKeep := w.getLsbD 30
    lastRegion := w.getLsbD 31
    ptList := ListPointer.none }

theorem exec_decodeRegion (w : Word) (s : State) :
    exec (decodeRegion w) s = .next { s with entry := openedEntry s w, ptrIndex := 0, ctl := .pointer } := by
  simp only [decodeRegion, exec, execRegion, entryWords_eq_six_iff, bits_eq_extract, bit_eq_getLsbD, openedEntry]

/-- Both pointer rows take the pointer the word holds (R122). -/
theorem exec_decodePointer (w : Word) (s : State) :
    exec (decodePointer w) s = .next (takePointer (pointerOfWord w) s) := by
  have haddr : bits w 23 2 * 4 = (w &&& 0x00FFFFFC).toNat := bits_mul_eq_and w (hi := 23) (by decide) (by decide)
  rw [decodePointer, pointerOfWord, bit_eq_getLsbD, ← haddr]
  cases w.getLsbD 31 <;> rfl

/-! ### One step at a region word -/

theorem step_region {s : State} (hc : s.ctl = .region) (ha : s.regionPtr % 4 = 0) :
    step s = .next { touch s.regionPtr s with
      entry := openedEntry s (regionWord s 0), ptrIndex := 0, ctl := .pointer } := by
  have hp : fetchPoint s = some (.regionControl, .vram s.regionPtr) := by simp only [fetchPoint, hc]
  rw [step_of_fetch_vram hp ha rfl (exec_decodeRegion _ _), touch_eq]
  rfl

theorem step_pointer {s : State} (hc : s.ctl = .pointer) (ha : s.regionPtr % 4 = 0) :
    step s = .next (takePointer (pointerOfWord (regionWord s (s.ptrIndex + 1)))
      (touch (s.regionPtr + 4 * (s.ptrIndex + 1)) s)) := by
  have haddr : s.regionPtr + 4 + 4 * s.ptrIndex = s.regionPtr + 4 * (s.ptrIndex + 1) := by omega
  have hp : fetchPoint s = some (.listPointer, .vram (s.regionPtr + 4 * (s.ptrIndex + 1))) := by
    simp only [fetchPoint, hc, haddr]
  rw [step_of_fetch_vram hp (by omega) rfl (exec_decodePointer _ _)]
  refine congrArg _ (leaveOperand_of_ctl fun f a => ?_)
  unfold takePointer
  split <;> exact Ctl.noConfusion

/-! ### The run over the words -/

/-- The entry after word `k`: opened by word 0, then one list pointer a word. -/
def entryAfterWord (s : State) : Nat → RegionEntry
  | 0 => openedEntry s (regionWord s 0)
  | k + 1 => setPointer (entryAfterWord s k) k (pointerOfWord (regionWord s (k + 1)))

/-- The state after word `k` of the entry at which `s` stands. -/
def afterRegionWord (s : State) (k : Nat) : State :=
  { touchAll (wordAddresses s.regionPtr (k + 1)) s with
    entry := entryAfterWord s k
    ptrIndex := k
    ctl := if k + 1 < entryWords s then .pointer else .setup }

@[simp] theorem afterRegionWord_regionPtr (s : State) (k : Nat) : (afterRegionWord s k).regionPtr = s.regionPtr :=
  (shadeFrame_touchAll _ s).regionPtr

@[simp] theorem afterRegionWord_vram (s : State) (k : Nat) : (afterRegionWord s k).vram = s.vram :=
  (shadeFrame_touchAll _ s).vram

@[simp] theorem afterRegionWord_ptrIndex (s : State) (k : Nat) : (afterRegionWord s k).ptrIndex = k := rfl

/-- Reading the entry does not change its words. -/
theorem regionWord_afterRegionWord (s : State) (k j : Nat) : regionWord (afterRegionWord s k) j = regionWord s j := by
  rw [regionWord, regionWord, afterRegionWord_vram, afterRegionWord_regionPtr]

theorem wordAddresses_succ (a n : Nat) : wordAddresses a (n + 1) = wordAddresses a n ++ [a + 4 * n] := by
  simp [wordAddresses, List.range_succ]

theorem touchAll_concat (as : List Nat) (a : Nat) (s : State) : touchAll (as ++ [a]) s = touch a (touchAll as s) := by
  induction as generalizing s with
  | nil => rfl
  | cons b as ih => exact ih (touch b s)

/-- Taking the next pointer leads from the state after one word to the state after the next. -/
theorem takePointer_afterRegionWord (s : State) (k : Nat) :
    takePointer (pointerOfWord (regionWord s (k + 1)))
      (touch (s.regionPtr + 4 * (k + 1)) (afterRegionWord s k)) = afterRegionWord s (k + 1) := by
  unfold afterRegionWord
  rw [wordAddresses_succ _ (k + 1), touchAll_concat]
  simp only [touchAll_eq, touch_eq]
  rfl

/-- The steps of one entry read its words in order (R240, R607). -/
theorem runSteps_region {s : State} (hc : s.ctl = .region) (ha : s.regionPtr % 4 = 0) {k : Nat}
    (hk : k < entryWords s) : runSteps (k + 1) s = .next (afterRegionWord s k) := by
  induction k with
  | zero =>
    have hfive := five_le_entryWords s
    rw [runSteps_succ_last, runSteps, andThen_next, step_region hc ha, afterRegionWord, if_pos (by omega)]
    rfl
  | succ k ih =>
    rw [runSteps_succ_last, ih (by omega), andThen_next,
      step_pointer (if_pos hk) (by rwa [afterRegionWord_regionPtr]), afterRegionWord_ptrIndex,
      afterRegionWord_regionPtr, regionWord_afterRegionWord, takePointer_afterRegionWord]

/-- Words 1 to 4 are four list pointers; the fifth, of the punch-through list, is word 5 or is missing (R120, R124). -/
theorem entryAfterWord_last (s : State) : entryAfterWord s (entryWords s - 1) =
    { openedEntry s (regionWord s 0) with
      opaqueList := pointerOfWord (regionWord s 1)
      opaqueModList := pointerOfWord (regionWord s 2)
      transList := pointerOfWord (regionWord s 3)
      transModList := pointerOfWord (regionWord s 4)
      ptList := if (reg s .fpuParamCfg).getLsbD 21 then pointerOfWord (regionWord s 5) else ListPointer.none } := by
  rw [entryWords_eq]
  split <;> rfl

/-- After an entry's last word the driver stands at tile setup (R240). -/
theorem runSteps_entry {s : State} (hc : s.ctl = .region) (ha : s.regionPtr % 4 = 0) :
    runSteps (entryWords s) s = .next { touchAll (wordAddresses s.regionPtr (entryWords s)) s with
      entry := entryAfterWord s (entryWords s - 1), ptrIndex := entryWords s - 1, ctl := .setup } := by
  obtain ⟨k, hk⟩ : ∃ k, entryWords s = k + 1 := ⟨entryWords s - 1, by have := five_le_entryWords s; omega⟩
  rw [hk, runSteps_region hc ha (by omega), afterRegionWord, if_neg (by omega), Nat.add_sub_cancel]

/-! ### The end of an entry -/

theorem step_entryEnd {s : State} (h : s.ctl = .entryEnd) : step s = .next (endEntry s) := by
  rw [step_eq_driverStep (by simp only [fetchPoint, h])]
  simp only [driverStep, h]

/-- Where the walk of the region array goes on (R49, R200). -/
theorem endEntry_of_more {s : State} (hlast : s.entry.lastRegion = false) (hcount : s.entryCount + 1 < 1024) :
    endEntry s = { s with
      regionPtr := s.regionPtr + 4 * entryWords s, entryCount := s.entryCount + 1, ctl := .region } := by
  simp only [endEntry, hlast, hcount, Bool.false_eq_true, if_false, if_true]

/-- Settles O20: the run to the entry's last word, for either length of an entry, and the driver's action at its end. -/
theorem regionEntryIsRead : Obligations.RegionEntryIsRead := by
  intro s hc ha six n word ptr
  have hwords : entryWords s = n := entryWords_eq s
  refine ⟨?read, fun t ht hregs hlast hcount => ?advance⟩
  case read =>
    rw [← hwords, runSteps_entry hc ha, entryAfterWord_last]
    rfl
  case advance =>
    have hadv : 4 * entryWords t = if six then 24 else 20 := by
      rw [show entryWords t = n by rw [← hwords, entryWords, entryWords, reg, reg, hregs]]
      exact mul_ite _ _ _ _
    rw [step_entryEnd ht, endEntry_of_more hlast hcount, hadv]

end Sys2Proof.Machine
end

section
/-! PROOF. R352: the fold of VOL_OR, one bit of one pixel at a time. -/

namespace Sys2Proof.Machine

/-- ORing the mask of bit 1 in sets bit 1 and keeps the other bits. -/
theorem getLsbD_or_bit1 (b : Byte) (k : Nat) : (b ||| 0x02).getLsbD k = (b.getLsbD k || decide (k = 1)) := by
  have hmask : (0x02 : Byte) = BitVec.twoPow 8 1 := by decide
  rw [BitVec.getLsbD_or, hmask, BitVec.getLsbD_twoPow]
  simp [eq_comm]

/-- The three kinds of bit of a folded stencil: bit 0 is cleared, bit 1 takes bit 0 in, the others stay (R352). -/
theorem getLsbD_foldOr (b : Byte) (k : Nat) : (foldOr b).getLsbD k =
    if k = 0 then false else if k = 1 then b.getLsbD 1 || b.getLsbD 0 else b.getLsbD k := by
  rw [foldOr, getLsbD_clearBit0, apply_ite (BitVec.getLsbD · k), getLsbD_or_bit1]
  match k with
  | 0 => rfl
  | 1 => cases b.getLsbD 0 <;> simp
  | k + 2 => simp

/-- VOL_OR is the fold whatever the CullMode beside it is (R352). -/
theorem exec_volOr (c : Nat) (s : State) : exec (.volOr c) s = .next (summarizeStencilOr s) := rfl

/-- Settles O43: the fold rewrites the stencil of every pixel, bit by bit as `getLsbD_foldOr` says. -/
theorem stencilOrFold : Obligations.StencilOrFold := by
  intro s c
  refine ⟨summarizeStencilOr s, exec_volOr c s, rfl, fun i => ?_⟩
  rw [pixel_summarizeStencilOr]
  exact ⟨rfl, getLsbD_foldOr (pixel s i).stencil⟩

end Sys2Proof.Machine
end

section
/-! PROOF. R502 to R504: the dithered components of a 565 pixel, and the halfword they make. -/

namespace Sys2Proof.Machine

/-- A number below `2 ^ w` beside another one is their sum at their places. -/
theorem ofNat_append_ofNat {v w hi lo : Nat} (hlo : lo < 2 ^ w) :
    BitVec.ofNat v hi ++ BitVec.ofNat w lo = BitVec.ofNat (v + w) (lo + 2 ^ w * hi) := by
  apply BitVec.eq_of_toNat_eq
  rw [BitVec.toNat_append, BitVec.toNat_ofNat, BitVec.toNat_ofNat, BitVec.toNat_ofNat, Nat.mod_eq_of_lt hlo,
    ← Nat.shiftLeft_add_eq_or_of_lt hlo, Nat.shiftLeft_eq]
  calc hi % 2 ^ v * 2 ^ w + lo
      = (lo + 2 ^ w * hi) % 2 ^ w + 2 ^ w * ((lo + 2 ^ w * hi) / 2 ^ w % 2 ^ v) := by
        rw [Nat.add_mul_mod_self_left, Nat.add_mul_div_left _ _ (Nat.two_pow_pos w), Nat.mod_eq_of_lt hlo,
          Nat.div_eq_of_lt hlo, Nat.zero_add, Nat.mul_comm, Nat.add_comm]
    _ = (lo + 2 ^ w * hi) % 2 ^ (v + w) := by rw [← Nat.mod_mul, ← Nat.pow_add, Nat.add_comm w v]

/-- The Bayer matrix as R503 writes it. -/
def bayerMatrix : List (List Nat) :=
  [[8, 136, 40, 168], [200, 72, 232, 104], [56, 184, 24, 152], [248, 120, 216, 88]]

theorem bayerRow_eq_getD {row : Nat} (h : row < 4) : bayerRow row = bayerMatrix.getD row [] := by
  match row, h with
  | 0, _ | 1, _ | 2, _ | 3, _ => rfl

/-- A pixel takes the matrix entry of its position modulo 4 (R502, R503). -/
theorem bayer_eq_getD (x y : Nat) : bayer x y = (bayerMatrix.getD (y % 4) []).getD (x % 4) 0 := by
  rw [bayer, bayerRow_eq_getD (Nat.mod_lt y (by decide))]

/-- Every entry of the matrix is below the divisor of R502; this is what keeps a component in its field (R504). -/
theorem bayer_lt_255 (x y : Nat) : bayer x y < 255 := by
  have hentry : ∀ row < 4, ∀ col < 4, (bayerMatrix.getD row []).getD col 0 < 255 := by decide
  rw [bayer_eq_getD]
  exact hentry _ (Nat.mod_lt y (by decide)) _ (Nat.mod_lt x (by decide))

/-- Under a threshold below 255 a component is at most its maximum, so R502 needs no clamp (R504). -/
theorem ditherChannel_le {t : Nat} (ht : t < 255) (m : Nat) (c : Byte) : ditherChannel m t c ≤ m := by
  have hc : c.toNat * m ≤ 255 * m := Nat.mul_le_mul_right m (by have := c.isLt; omega)
  rw [ditherChannel]
  omega

/-- When green and red fit their fields, `pack565` puts the three fields side by side (R502). -/
theorem pack565_eq_append (c : Color) (x y : Nat)
    (hg : ditherChannel 63 (bayer x y) c.g < 2 ^ 6) (hr : ditherChannel 31 (bayer x y) c.r < 2 ^ 5) :
    pack565 c x y = BitVec.ofNat 5 (ditherChannel 31 (bayer x y) c.b) ++
      BitVec.ofNat 6 (ditherChannel 63 (bayer x y) c.g) ++ BitVec.ofNat 5 (ditherChannel 31 (bayer x y) c.r) := by
  rw [ofNat_append_ofNat hg, ofNat_append_ofNat hr, pack565]
  congr 1
  omega

/-- Settles O60: the matrix entry is below 255, so each component is at most its maximum and the fields do not meet. -/
theorem ditheredPackFits : Obligations.DitheredPackFits := by
  intro c x y rows t r5 g6 b5
  have hbayer : bayer x y = t := bayer_eq_getD x y
  have ht : t < 255 := hbayer ▸ bayer_lt_255 x y
  have hr : r5 ≤ 31 := ditherChannel_le ht 31 c.r
  have hg : g6 ≤ 63 := ditherChannel_le ht 63 c.g
  have hb : b5 ≤ 31 := ditherChannel_le ht 31 c.b
  refine ⟨hr, hg, hb, ?_⟩
  have hpack := pack565_eq_append c x y
  rw [hbayer] at hpack
  exact hpack (Nat.lt_succ_of_le hg) (Nat.lt_succ_of_le hr)

end Sys2Proof.Machine
end

section
/-! PROOF. The decoder and the encoder undo each other (30_encoding.md): a field of a word that was put together from
its fields, and a word put together from the fields read out of it. -/

namespace Sys2Proof

/-! ### From fields to the word and back -/

/-- A field of a word given by its number. -/
theorem bits_ofNat (n : Nat) {hi lo : Nat} (h : hi < 32) :
    bits (BitVec.ofNat 32 n) hi lo = n / 2 ^ lo % 2 ^ (hi + 1 - lo) := by
  apply Nat.eq_of_testBit_eq
  intro j
  simp only [bits, BitVec.toNat_ofNat, Nat.testBit_mod_two_pow, Nat.testBit_div_two_pow]
  by_cases hj : j < hi + 1 - lo
  · have h32 : j + lo < 32 := by omega
    simp [hj, h32]
  · simp [hj]

/-- A flag of a word given by its number. -/
theorem bit_ofNat (n : Nat) {i : Nat} (h : i < 32) : bit (BitVec.ofNat 32 n) i = (n / 2 ^ i % 2 == 1) := by
  have hb := bits_ofNat n (lo := i) h
  have h1 : i + 1 - i = 1 := by omega
  rw [bits, h1, pow_one] at hb
  rw [bit, hb]

/-- Four bytes taken out of a word in order make the word (R99). -/
theorem wordOfBytes_extract (w : Word) :
    wordOfBytes (w.extractLsb' 0 8) (w.extractLsb' 8 8) (w.extractLsb' 16 8) (w.extractLsb' 24 8) = w := by
  have h := Machine.wordOfBytes_byteOfWord w
  simpa only [byteOfWord_eq_extract] using h

/-- The entry of a word whose type field is below 4 is the strip of its fields (R126). -/
theorem decode_encode_strip {offs skip mask : Nat} (shadow : Bool) (ho : offs < 2 ^ 21) (hs : skip < 2 ^ 3)
    (hm : mask < 2 ^ 6) :
    decodeObject (encode (.strip offs skip shadow mask)) = .strip offs skip shadow mask := by
  have ht : bits (encode (.strip offs skip shadow mask)) 31 29 < 4 := by
    rw [encode, bits_ofNat _ (by decide)]
    cases shadow <;> simp only [encodeNat, flagAt, Bool.false_eq_true, if_true, if_false] <;> omega
  rw [decodeObject_of_type_lt_four ht, encode, bits_ofNat _ (by decide), bits_ofNat _ (by decide),
    bits_ofNat _ (by decide), bit_ofNat _ (by decide)]
  cases shadow <;>
    simp only [encodeNat, flagAt, Bool.false_eq_true, if_true, if_false, Instr.strip.injEq, beq_iff_eq,
      beq_eq_false_iff_ne] <;> omega

/-- The fields of an array entry, whatever its type (R127, R128). -/
theorem fields_encode_array {offs skip prims : Nat} (shadow : Bool) (type : Nat) (ho : offs < 2 ^ 21)
    (hs : skip < 2 ^ 3) (hp : prims < 2 ^ 4) (ht : type < 8) :
    let w := BitVec.ofNat 32 (offs + 2 ^ 21 * skip + flagAt shadow 24 + 2 ^ 25 * prims + 2 ^ 29 * type)
    bits w 31 29 = type ∧ bits w 20 0 = offs ∧ bits w 23 21 = skip ∧ bit w 24 = shadow ∧ bits w 28 25 = prims := by
  intro w
  simp only [w, bits_ofNat _ (show 31 < 32 by decide), bits_ofNat _ (show 20 < 32 by decide),
    bits_ofNat _ (show 23 < 32 by decide), bits_ofNat _ (show 28 < 32 by decide),
    bit_ofNat _ (show 24 < 32 by decide)]
  cases shadow <;>
    simp only [flagAt, Bool.false_eq_true, if_true, if_false, beq_iff_eq, beq_eq_false_iff_ne] <;> omega

theorem decode_encode_tarray {offs skip prims : Nat} (shadow : Bool) (ho : offs < 2 ^ 21) (hs : skip < 2 ^ 3)
    (hp : prims < 2 ^ 4) :
    decodeObject (encode (.tarray offs skip shadow prims)) = .tarray offs skip shadow prims := by
  obtain ⟨htype, hoffs, hskip, hshadow, hprims⟩ := fields_encode_array shadow 4 ho hs hp (by decide)
  rw [encode, encodeNat, decodeObject_of_type_four htype, hoffs, hskip, hshadow, hprims]

theorem decode_encode_qarray {offs skip prims : Nat} (shadow : Bool) (ho : offs < 2 ^ 21) (hs : skip < 2 ^ 3)
    (hp : prims < 2 ^ 4) :
    decodeObject (encode (.qarray offs skip shadow prims)) = .qarray offs skip shadow prims := by
  obtain ⟨htype, hoffs, hskip, hshadow, hprims⟩ := fields_encode_array shadow 5 ho hs hp (by decide)
  rw [encode, encodeNat, decodeObject_of_type_five htype, hoffs, hskip, hshadow, hprims]

theorem decode_encode_region {tx ty : Nat} (nw ps zk lr : Bool) (hx : tx < 2 ^ 6) (hy : ty < 2 ^ 6) :
    decodeRegion (encode (.region tx ty nw ps zk lr)) = .region tx ty nw ps zk lr := by
  simp only [decodeRegion, encode, bits_ofNat _ (show 7 < 32 by decide), bits_ofNat _ (show 13 < 32 by decide),
    bit_ofNat _ (show 28 < 32 by decide), bit_ofNat _ (show 29 < 32 by decide), bit_ofNat _ (show 30 < 32 by decide),
    bit_ofNat _ (show 31 < 32 by decide), Instr.region.injEq, encodeNat]
  cases nw <;> cases ps <;> cases zk <;> cases lr <;>
    simp only [flagAt, Bool.false_eq_true, if_true, if_false, beq_iff_eq, beq_eq_false_iff_ne] <;> omega

theorem decode_encode_reserved110 {low : Nat} (h : low < 2 ^ 29) :
    decodeObject (encode (.reserved110 low)) = .reserved110 low := by
  have htype : bits (encode (.reserved110 low)) 31 29 = 6 := by
    rw [encode, bits_ofNat _ (by decide), encodeNat]
    omega
  rw [decodeObject_of_type_six htype, encode, bits_ofNat _ (by decide), encodeNat]
  exact congrArg Instr.reserved110 (by omega)

theorem decode_encode_link {n : Nat} (h : n < 2 ^ 22) : decodeObject (encode (.link n)) = .link n := by
  have htype : bits (encode (.link n)) 31 29 = 7 := by
    rw [encode, bits_ofNat _ (by decide), encodeNat]
    omega
  have hend : bit (encode (.link n)) 28 = false := by
    rw [encode, bit_ofNat _ (by decide), encodeNat, beq_eq_false_iff_ne]
    omega
  rw [decodeObject_of_type_seven htype, hend, if_neg Bool.false_ne_true, encode, bits_ofNat _ (by decide), encodeNat]
  exact congrArg Instr.link (by omega)

theorem decode_encode_linkEnd {n : Nat} (h : n < 2 ^ 22) : decodeObject (encode (.linkEnd n)) = .linkEnd n := by
  have htype : bits (encode (.linkEnd n)) 31 29 = 7 := by
    rw [encode, bits_ofNat _ (by decide), encodeNat]
    omega
  have hend : bit (encode (.linkEnd n)) 28 = true := by
    rw [encode, bit_ofNat _ (by decide), encodeNat, beq_iff_eq]
    omega
  rw [decodeObject_of_type_seven htype, hend, if_pos rfl, encode, bits_ofNat _ (by decide), encodeNat]
  exact congrArg Instr.linkEnd (by omega)

theorem decode_encode_ptr {p : Nat} (h : p < 2 ^ 22) : decodePointer (encode (.ptr p)) = .ptr p := by
  have hempty : bit (encode (.ptr p)) 31 = false := by
    rw [encode, bit_ofNat _ (by decide), encodeNat, beq_eq_false_iff_ne]
    omega
  rw [decodePointer, hempty, if_neg Bool.false_ne_true, encode, bits_ofNat _ (by decide), encodeNat]
  exact congrArg Instr.ptr (by omega)

theorem decode_encode_ptrEmpty {p : Nat} (h : p < 2 ^ 22) : decodePointer (encode (.ptrEmpty p)) = .ptrEmpty p := by
  have hempty : bit (encode (.ptrEmpty p)) 31 = true := by
    rw [encode, bit_ofNat _ (by decide), encodeNat, beq_iff_eq]
    omega
  rw [decodePointer, hempty, if_pos rfl, encode, bits_ofNat _ (by decide), encodeNat]
  exact congrArg Instr.ptrEmpty (by omega)

/-- The fields of a modifier word with fold `k` (R146). -/
theorem fields_encode_volume {c : Nat} (hc : c < 2 ^ 2) (k : Nat) (hk : k < 8) :
    bits (BitVec.ofNat 32 (2 ^ 27 * c + 2 ^ 29 * k)) 31 29 = k ∧
      bits (BitVec.ofNat 32 (2 ^ 27 * c + 2 ^ 29 * k)) 28 27 = c := by
  rw [bits_ofNat _ (by decide), bits_ofNat _ (by decide)]
  omega

theorem decode_encode_volNone {c : Nat} (hc : c < 2 ^ 2) : decodeVolume (encode (.volNone c)) = .volNone c := by
  obtain ⟨hmode, hcull⟩ := fields_encode_volume hc 0 (by decide)
  rw [encode, encodeNat, ← Nat.add_zero (2 ^ 27 * c), ← Nat.mul_zero (2 ^ 29), decodeVolume, hmode, hcull]
  rfl

theorem decode_encode_volOr {c : Nat} (hc : c < 2 ^ 2) : decodeVolume (encode (.volOr c)) = .volOr c := by
  obtain ⟨hmode, hcull⟩ := fields_encode_volume hc 1 (by decide)
  rw [encode, encodeNat, ← Nat.mul_one (2 ^ 29), decodeVolume, hmode, hcull]
  rfl

theorem decode_encode_volAnd {c : Nat} (hc : c < 2 ^ 2) : decodeVolume (encode (.volAnd c)) = .volAnd c := by
  obtain ⟨hmode, hcull⟩ := fields_encode_volume hc 2 (by decide)
  rw [encode, encodeNat, decodeVolume, hmode, hcull]
  rfl

/-- The fields of a texture word with format `k` (R160). -/
theorem fields_encode_tcw {sel a : Nat} (hs : sel < 2 ^ 6) (ha : a < 2 ^ 21) (k : Nat) (hk : k < 8) :
    let w := BitVec.ofNat 32 (a + 2 ^ 21 * sel + 2 ^ 27 * k)
    bits w 29 27 = k ∧ bits w 26 21 = sel ∧ bits w 20 0 = a := by
  intro w
  simp only [w, bits_ofNat _ (show 29 < 32 by decide), bits_ofNat _ (show 26 < 32 by decide),
    bits_ofNat _ (show 20 < 32 by decide)]
  omega

/-- The fields of a texture word of a format without a palette (R160). -/
theorem fields_encode_plainTcw {a : Nat} (ha : a < 2 ^ 21) (k : Nat) (hk : k < 8) :
    bits (BitVec.ofNat 32 (a + 2 ^ 27 * k)) 29 27 = k ∧ bits (BitVec.ofNat 32 (a + 2 ^ 27 * k)) 20 0 = a := by
  obtain ⟨hfmt, -, haddr⟩ := fields_encode_tcw (sel := 0) (by decide) ha k hk
  exact ⟨hfmt, haddr⟩

theorem decode_encode_fmtArgb1555 {a : Nat} (ha : a < 2 ^ 21) :
    decodePixelFmt (encode (.fmtArgb1555 a)) = .fmtArgb1555 a := by
  obtain ⟨hfmt, haddr⟩ := fields_encode_plainTcw ha 0 (by decide)
  rw [encode, encodeNat, ← Nat.add_zero a, ← Nat.mul_zero (2 ^ 27), decodePixelFmt, hfmt, haddr]
  rfl

theorem decode_encode_fmtRgb565 {a : Nat} (ha : a < 2 ^ 21) :
    decodePixelFmt (encode (.fmtRgb565 a)) = .fmtRgb565 a := by
  obtain ⟨hfmt, haddr⟩ := fields_encode_plainTcw ha 1 (by decide)
  rw [encode, encodeNat, ← Nat.mul_one (2 ^ 27), decodePixelFmt, hfmt, haddr]
  rfl

theorem decode_encode_fmtArgb4444 {a : Nat} (ha : a < 2 ^ 21) :
    decodePixelFmt (encode (.fmtArgb4444 a)) = .fmtArgb4444 a := by
  obtain ⟨hfmt, haddr⟩ := fields_encode_plainTcw ha 2 (by decide)
  rw [encode, encodeNat, decodePixelFmt, hfmt, haddr]
  rfl

theorem decode_encode_fmtYuv422 {a : Nat} (ha : a < 2 ^ 21) :
    decodePixelFmt (encode (.fmtYuv422 a)) = .fmtYuv422 a := by
  obtain ⟨hfmt, haddr⟩ := fields_encode_plainTcw ha 3 (by decide)
  rw [encode, encodeNat, decodePixelFmt, hfmt, haddr]
  rfl

theorem decode_encode_fmtBump {a : Nat} (ha : a < 2 ^ 21) :
    decodePixelFmt (encode (.fmtBump a)) = .fmtBump a := by
  obtain ⟨hfmt, haddr⟩ := fields_encode_plainTcw ha 4 (by decide)
  rw [encode, encodeNat, decodePixelFmt, hfmt, haddr]
  rfl

theorem decode_encode_fmtReserved7 {a : Nat} (ha : a < 2 ^ 21) :
    decodePixelFmt (encode (.fmtReserved7 a)) = .fmtReserved7 a := by
  obtain ⟨hfmt, haddr⟩ := fields_encode_plainTcw ha 7 (by decide)
  rw [encode, encodeNat, decodePixelFmt, hfmt, haddr]
  rfl

theorem decode_encode_pal4 {sel a : Nat} (hs : sel < 2 ^ 6) (ha : a < 2 ^ 21) :
    decodePixelFmt (encode (.fmtPal4 sel a)) = .fmtPal4 sel a := by
  obtain ⟨hfmt, hsel, haddr⟩ := fields_encode_tcw hs ha 5 (by decide)
  rw [encode, encodeNat, decodePixelFmt, hfmt, hsel, haddr]
  rfl

theorem decode_encode_pal8 {sel a : Nat} (hs : sel < 2 ^ 6) (ha : a < 2 ^ 21) :
    decodePixelFmt (encode (.fmtPal8 sel a)) = .fmtPal8 sel a := by
  obtain ⟨hfmt, hsel, haddr⟩ := fields_encode_tcw hs ha 6 (by decide)
  rw [encode, encodeNat, decodePixelFmt, hfmt, hsel, haddr]
  rfl

/-- Decoding an encoded instruction in its format gives it back: row by row, its operand fields, or the one code. -/
theorem decode_encode {i : Instr} (h : i.wellFormed = true) : decode i.format (encode i) = .ok i := by
  cases i with
    simp only [Instr.wellFormed, Bool.and_eq_true, decide_eq_true_eq] at h
  | region => exact congrArg _ (decode_encode_region _ _ _ _ h.1 h.2)
  | ptr => exact congrArg _ (decode_encode_ptr h)
  | ptrEmpty => exact congrArg _ (decode_encode_ptrEmpty h)
  | strip =>
    obtain ⟨⟨hoffs, hskip⟩, hlast⟩ := h
    exact congrArg _ (decode_encode_strip _ hoffs hskip hlast)
  | tarray =>
    obtain ⟨⟨hoffs, hskip⟩, hlast⟩ := h
    exact congrArg _ (decode_encode_tarray _ hoffs hskip hlast)
  | qarray =>
    obtain ⟨⟨hoffs, hskip⟩, hlast⟩ := h
    exact congrArg _ (decode_encode_qarray _ hoffs hskip hlast)
  | reserved110 => exact congrArg _ (decode_encode_reserved110 h)
  | link => exact congrArg _ (decode_encode_link h)
  | linkEnd => exact congrArg _ (decode_encode_linkEnd h)
  | volNone => exact congrArg _ (decode_encode_volNone h)
  | volOr => exact congrArg _ (decode_encode_volOr h)
  | volAnd => exact congrArg _ (decode_encode_volAnd h)
  | fmtArgb1555 => exact congrArg _ (decode_encode_fmtArgb1555 h)
  | fmtRgb565 => exact congrArg _ (decode_encode_fmtRgb565 h)
  | fmtArgb4444 => exact congrArg _ (decode_encode_fmtArgb4444 h)
  | fmtYuv422 => exact congrArg _ (decode_encode_fmtYuv422 h)
  | fmtBump => exact congrArg _ (decode_encode_fmtBump h)
  | fmtReserved7 => exact congrArg _ (decode_encode_fmtReserved7 h)
  | fmtPal4 => exact congrArg _ (decode_encode_pal4 h.1 h.2)
  | fmtPal8 => exact congrArg _ (decode_encode_pal8 h.1 h.2)
  | tcwStrideScan sel => cases sel <;> rfl
  | _ => rfl

/-! ### From the word to fields and back -/

/-- A field put back at its place is the word under the field's mask. -/
theorem and_mask_eq (w : Word) (hi lo : Nat) {mask : Word} (h : hi < 32) (hl : lo ≤ hi)
    (hm : mask = BitVec.ofNat 32 ((2 ^ (hi + 1 - lo) - 1) * 2 ^ lo)) :
    w &&& mask = BitVec.ofNat 32 (2 ^ lo * bits w hi lo) := by
  rw [Nat.mul_comm, bits_mul_eq_and w h hl, ← hm, BitVec.ofNat_toNat, BitVec.setWidth_eq]

/-- A flag is the one-bit field. -/
theorem flagAt_bit (w : Word) (i : Nat) : flagAt (bit w i) i = 2 ^ i * bits w i i := by
  have h1 : i + 1 - i = 1 := by omega
  unfold flagAt bit bits
  rw [h1, pow_one]
  rcases Nat.mod_two_eq_zero_or_one (w.toNat / 2 ^ i) with h | h <;> simp [h]

/-- The word under a mask of two parts that share no bit is the sum of the word under each. -/
theorem and_or_eq_add (w m n : Word) (h : m &&& n = 0) : w &&& (m ||| n) = (w &&& m) + (w &&& n) := by
  have hd : (w &&& m) &&& (w &&& n) = 0 := by
    ext i hi
    have := congrArg (·[i]) h
    simp only [BitVec.getElem_and] at this ⊢
    grind
  rw [BitVec.add_eq_or_of_and_eq_zero _ _ hd]
  ext i hi
  simp only [BitVec.getElem_and, BitVec.getElem_or]
  grind

/-- What reading a word in a format must give back (30_encoding.md). -/
def ReadsBack (f : Format) (w : Word) (i : Instr) : Prop :=
  i.wellFormed = true ∧ i.format = f ∧ encode i = w &&& Machine.definedBits i

/-! One lemma a format with a single code field: each code is a row, and the field is all the row defines. -/

theorem readsBack_depth (w : Word) : ReadsBack .depthMode w (decodeDepth w) := by
  have hmask : w &&& 0xE0000000 = BitVec.ofNat 32 (2 ^ 29 * bits w 31 29) :=
    and_mask_eq w 31 29 (by decide) (by decide) rfl
  have hk := bits_lt w 31 29
  unfold decodeDepth
  generalize bits w 31 29 = k at hmask hk
  interval_cases k <;> exact ⟨rfl, rfl, hmask.symm⟩

theorem readsBack_cull (w : Word) : ReadsBack .cullMode w (decodeCull w) := by
  have hmask : w &&& 0x18000000 = BitVec.ofNat 32 (2 ^ 27 * bits w 28 27) :=
    and_mask_eq w 28 27 (by decide) (by decide) rfl
  have hk := bits_lt w 28 27
  unfold decodeCull
  generalize bits w 28 27 = k at hmask hk
  interval_cases k <;> exact ⟨rfl, rfl, hmask.symm⟩

theorem readsBack_src (w : Word) : ReadsBack .srcInstr w (decodeSrc w) := by
  have hmask : w &&& 0xE0000000 = BitVec.ofNat 32 (2 ^ 29 * bits w 31 29) :=
    and_mask_eq w 31 29 (by decide) (by decide) rfl
  have hk := bits_lt w 31 29
  unfold decodeSrc
  generalize bits w 31 29 = k at hmask hk
  interval_cases k <;> exact ⟨rfl, rfl, hmask.symm⟩

theorem readsBack_dst (w : Word) : ReadsBack .dstInstr w (decodeDst w) := by
  have hmask : w &&& 0x1C000000 = BitVec.ofNat 32 (2 ^ 26 * bits w 28 26) :=
    and_mask_eq w 28 26 (by decide) (by decide) rfl
  have hk := bits_lt w 28 26
  unfold decodeDst
  generalize bits w 28 26 = k at hmask hk
  interval_cases k <;> exact ⟨rfl, rfl, hmask.symm⟩

theorem readsBack_fog (w : Word) : ReadsBack .fogCtrl w (decodeFog w) := by
  have hmask : w &&& 0x00C00000 = BitVec.ofNat 32 (2 ^ 22 * bits w 23 22) :=
    and_mask_eq w 23 22 (by decide) (by decide) rfl
  have hk := bits_lt w 23 22
  unfold decodeFog
  generalize bits w 23 22 = k at hmask hk
  interval_cases k <;> exact ⟨rfl, rfl, hmask.symm⟩

theorem readsBack_filter (w : Word) : ReadsBack .filterMode w (decodeFilter w) := by
  have hmask : w &&& 0x00006000 = BitVec.ofNat 32 (2 ^ 13 * bits w 14 13) :=
    and_mask_eq w 14 13 (by decide) (by decide) rfl
  have hk := bits_lt w 14 13
  unfold decodeFilter
  generalize bits w 14 13 = k at hmask hk
  interval_cases k <;> exact ⟨rfl, rfl, hmask.symm⟩

theorem readsBack_shad (w : Word) : ReadsBack .shadInstr w (decodeShad w) := by
  have hmask : w &&& 0x000000C0 = BitVec.ofNat 32 (2 ^ 6 * bits w 7 6) :=
    and_mask_eq w 7 6 (by decide) (by decide) rfl
  have hk := bits_lt w 7 6
  unfold decodeShad
  generalize bits w 7 6 = k at hmask hk
  interval_cases k <;> exact ⟨rfl, rfl, hmask.symm⟩

theorem readsBack_palette (w : Word) : ReadsBack .palRamCtrl w (decodePalette w) := by
  have hmask : w &&& 0x00000003 = BitVec.ofNat 32 (2 ^ 0 * bits w 1 0) :=
    and_mask_eq w 1 0 (by decide) (by decide) rfl
  have hk := bits_lt w 1 0
  unfold decodePalette
  generalize bits w 1 0 = k at hmask hk
  interval_cases k <;> exact ⟨rfl, rfl, hmask.symm⟩

theorem readsBack_pack (w : Word) : ReadsBack .fbPackmode w (decodePack w) := by
  have hmask : w &&& 0x00000007 = BitVec.ofNat 32 (2 ^ 0 * bits w 2 0) :=
    and_mask_eq w 2 0 (by decide) (by decide) rfl
  have hk := bits_lt w 2 0
  unfold decodePack
  generalize bits w 2 0 = k at hmask hk
  interval_cases k <;> exact ⟨rfl, rfl, hmask.symm⟩

/-! The formats with operand fields: the masks of the fields share no bit, and together are the row's. -/

theorem readsBack_volume (w : Word) : ReadsBack .volumeMode w (decodeVolume w) := by
  have hc : w &&& 0x18000000 = BitVec.ofNat 32 (2 ^ 27 * bits w 28 27) :=
    and_mask_eq w 28 27 (by decide) (by decide) rfl
  have hv : w &&& 0xE0000000 = BitVec.ofNat 32 (2 ^ 29 * bits w 31 29) :=
    and_mask_eq w 31 29 (by decide) (by decide) rfl
  have hcv : w &&& 0xF8000000 = BitVec.ofNat 32 (2 ^ 27 * bits w 28 27 + 2 ^ 29 * bits w 31 29) := by
    rw [BitVec.ofNat_add, ← hc, ← hv]
    exact and_or_eq_add w 0x18000000 0xE0000000 (by decide)
  have hk := bits_lt w 31 29
  have hb : bits w 28 27 < 2 ^ 2 := bits_lt w 28 27
  unfold decodeVolume
  generalize bits w 31 29 = k at hv hcv hk
  interval_cases k
  iterate 3 exact ⟨decide_eq_true hb, rfl, hcv.symm⟩
  all_goals exact ⟨rfl, rfl, hv.symm⟩

theorem readsBack_region (w : Word) : ReadsBack .regionControl w (decodeRegion w) := by
  have hx : bits w 7 2 < 2 ^ 6 := bits_lt w 7 2
  have hy : bits w 13 8 < 2 ^ 6 := bits_lt w 13 8
  refine ⟨?_, rfl, ?_⟩
  · simp only [decodeRegion, Instr.wellFormed, hx, hy, decide_true, Bool.and_self]
  · simp only [decodeRegion, encode, encodeNat, flagAt_bit, BitVec.ofNat_add]
    rw [show 4 * bits w 7 2 = 2 ^ 2 * bits w 7 2 from rfl,
      ← and_mask_eq w 7 2 (mask := 0xFC) (by decide) (by decide) rfl,
      ← and_mask_eq w 13 8 (mask := 0x3F00) (by decide) (by decide) rfl,
      ← and_mask_eq w 28 28 (mask := 0x10000000) (by decide) (by decide) rfl,
      ← and_mask_eq w 29 29 (mask := 0x20000000) (by decide) (by decide) rfl,
      ← and_mask_eq w 30 30 (mask := 0x40000000) (by decide) (by decide) rfl,
      ← and_mask_eq w 31 31 (mask := 0x80000000) (by decide) (by decide) rfl,
      ← and_or_eq_add _ _ _ (by decide), ← and_or_eq_add _ _ _ (by decide), ← and_or_eq_add _ _ _ (by decide),
      ← and_or_eq_add _ _ _ (by decide), ← and_or_eq_add _ _ _ (by decide)]
    rfl

theorem readsBack_pointer (w : Word) : ReadsBack .listPointer w (decodePointer w) := by
  have hp : bits w 23 2 < 2 ^ 22 := bits_lt w 23 2
  have hflag := and_mask_eq w 31 31 (mask := 0x80000000) (by decide) (by decide) rfl
  have hword : w &&& 0x80FFFFFC = BitVec.ofNat 32 (4 * bits w 23 2 + flagAt (bit w 31) 31) := by
    rw [BitVec.ofNat_add, flagAt_bit, ← hflag, show 4 * bits w 23 2 = 2 ^ 2 * bits w 23 2 from rfl,
      ← and_mask_eq w 23 2 (mask := 0x00FFFFFC) (by decide) (by decide) rfl, ← and_or_eq_add _ _ _ (by decide)]
    rfl
  unfold decodePointer
  cases hb : bit w 31 <;> rw [hb] at hword
  · exact ⟨decide_eq_true hp, rfl, hword.symm⟩
  · exact ⟨decide_eq_true hp, rfl, hword.symm⟩

theorem readsBack_scan (w : Word) : ReadsBack .scanOrder w (decodeScan w) := by
  have horder : w &&& 0x04000000 = BitVec.ofNat 32 (flagAt (bit w 26) 26) := by
    rw [flagAt_bit]
    exact and_mask_eq w 26 26 (by decide) (by decide) rfl
  have hboth : w &&& 0x06000000 = BitVec.ofNat 32 (flagAt (bit w 25) 25 + flagAt (bit w 26) 26) := by
    rw [BitVec.ofNat_add, ← horder, flagAt_bit, ← and_mask_eq w 25 25 (mask := 0x02000000) (by decide) (by decide) rfl,
      ← and_or_eq_add _ _ _ (by decide)]
    rfl
  unfold decodeScan
  cases hb : bit w 26 <;> rw [hb] at horder hboth
  · exact ⟨rfl, rfl, horder.symm⟩
  · exact ⟨rfl, rfl, hboth.symm⟩

theorem readsBack_pixelFmt (w : Word) : ReadsBack .pixelFmt w (decodePixelFmt w) := by
  have ha : bits w 20 0 < 2 ^ 21 := bits_lt w 20 0
  have hs : bits w 26 21 < 2 ^ 6 := bits_lt w 26 21
  have hplain : w &&& 0x381FFFFF = BitVec.ofNat 32 (bits w 20 0 + 2 ^ 27 * bits w 29 27) := by
    rw [BitVec.ofNat_add, ← Nat.one_mul (bits w 20 0), show (1 : Nat) = 2 ^ 0 from rfl,
      ← and_mask_eq w 20 0 (mask := 0x001FFFFF) (by decide) (by decide) rfl,
      ← and_mask_eq w 29 27 (mask := 0x38000000) (by decide) (by decide) rfl, ← and_or_eq_add _ _ _ (by decide)]
    rfl
  have hpal : w &&& 0x3FFFFFFF = BitVec.ofNat 32 (bits w 20 0 + 2 ^ 21 * bits w 26 21 + 2 ^ 27 * bits w 29 27) := by
    rw [Nat.add_right_comm, BitVec.ofNat_add, ← hplain,
      ← and_mask_eq w 26 21 (mask := 0x07E00000) (by decide) (by decide) rfl, ← and_or_eq_add _ _ _ (by decide)]
    rfl
  have hk := bits_lt w 29 27
  unfold decodePixelFmt
  generalize bits w 29 27 = k at hplain hpal hk
  interval_cases k
  iterate 5 exact ⟨decide_eq_true ha, rfl, hplain.symm⟩
  iterate 2 exact ⟨by simp only [Instr.wellFormed, ha, hs, decide_true, Bool.and_self], rfl, hpal.symm⟩
  exact ⟨decide_eq_true ha, rfl, hplain.symm⟩

/-- The common fields of a strip and an array (R126 to R128). -/
theorem and_entry_fields (w : Word) : w &&& 0x01FFFFFF =
    BitVec.ofNat 32 (bits w 20 0 + 2 ^ 21 * bits w 23 21 + flagAt (bit w 24) 24) := by
  rw [BitVec.ofNat_add, BitVec.ofNat_add, flagAt_bit, ← Nat.one_mul (bits w 20 0), show (1 : Nat) = 2 ^ 0 from rfl,
    ← and_mask_eq w 20 0 (mask := 0x001FFFFF) (by decide) (by decide) rfl,
    ← and_mask_eq w 23 21 (mask := 0x00E00000) (by decide) (by decide) rfl,
    ← and_mask_eq w 24 24 (mask := 0x01000000) (by decide) (by decide) rfl,
    ← and_or_eq_add _ _ _ (by decide), ← and_or_eq_add _ _ _ (by decide)]
  rfl

theorem readsBack_strip {w : Word} (h : bits w 31 29 < 4) :
    ReadsBack .objectList w (.strip (bits w 20 0) (bits w 23 21) (bit w 24) (bits w 30 25)) := by
  have ho : bits w 20 0 < 2 ^ 21 := bits_lt w 20 0
  have hs : bits w 23 21 < 2 ^ 3 := bits_lt w 23 21
  have hm : bits w 30 25 < 2 ^ 6 := bits_lt w 30 25
  have htop : w &&& 0x80000000 = 0 := by
    have hz : bits w 31 31 = 0 := by
      unfold bits at h ⊢
      omega
    rw [and_mask_eq w 31 31 (mask := 0x80000000) (by decide) (by decide) rfl, hz]
    rfl
  refine ⟨by simp only [Instr.wellFormed, ho, hs, hm, decide_true, Bool.and_self], rfl, ?_⟩
  calc encode (.strip (bits w 20 0) (bits w 23 21) (bit w 24) (bits w 30 25))
      = (w &&& 0x01FFFFFF) + (w &&& 0x7E000000) := by
        rw [and_entry_fields, and_mask_eq w 30 25 (mask := 0x7E000000) (by decide) (by decide) rfl, ← BitVec.ofNat_add]
        rfl
    _ = (w &&& 0x7FFFFFFF) + (w &&& 0x80000000) := by
        rw [← and_or_eq_add _ _ _ (by decide), htop, add_zero]
        rfl
    _ = w &&& 0xFFFFFFFF := (and_or_eq_add w 0x7FFFFFFF 0x80000000 (by decide)).symm

/-- An array's fields fill its word. -/
theorem array_word (w : Word) {type : Nat} (h : bits w 31 29 = type) :
    BitVec.ofNat 32 (bits w 20 0 + 2 ^ 21 * bits w 23 21 + flagAt (bit w 24) 24 + 2 ^ 25 * bits w 28 25 +
      2 ^ 29 * type) = w &&& 0xFFFFFFFF := by
  rw [← h, BitVec.ofNat_add, BitVec.ofNat_add, ← and_entry_fields,
    ← and_mask_eq w 28 25 (mask := 0x1E000000) (by decide) (by decide) rfl,
    ← and_mask_eq w 31 29 (mask := 0xE0000000) (by decide) (by decide) rfl,
    ← and_or_eq_add _ _ _ (by decide), ← and_or_eq_add _ _ _ (by decide)]
  rfl

theorem readsBack_tarray {w : Word} (h : bits w 31 29 = 4) :
    ReadsBack .objectList w (.tarray (bits w 20 0) (bits w 23 21) (bit w 24) (bits w 28 25)) := by
  have ho : bits w 20 0 < 2 ^ 21 := bits_lt w 20 0
  have hs : bits w 23 21 < 2 ^ 3 := bits_lt w 23 21
  have hp : bits w 28 25 < 2 ^ 4 := bits_lt w 28 25
  exact ⟨by simp only [Instr.wellFormed, ho, hs, hp, decide_true, Bool.and_self], rfl, array_word w h⟩

theorem readsBack_qarray {w : Word} (h : bits w 31 29 = 5) :
    ReadsBack .objectList w (.qarray (bits w 20 0) (bits w 23 21) (bit w 24) (bits w 28 25)) := by
  have ho : bits w 20 0 < 2 ^ 21 := bits_lt w 20 0
  have hs : bits w 23 21 < 2 ^ 3 := bits_lt w 23 21
  have hp : bits w 28 25 < 2 ^ 4 := bits_lt w 28 25
  exact ⟨by simp only [Instr.wellFormed, ho, hs, hp, decide_true, Bool.and_self], rfl, array_word w h⟩

theorem readsBack_reserved110 {w : Word} (h : bits w 31 29 = 6) :
    ReadsBack .objectList w (.reserved110 (bits w 28 0)) := by
  refine ⟨decide_eq_true (bits_lt w 28 0), rfl, ?_⟩
  rw [encode, encodeNat, ← h, BitVec.ofNat_add, ← Nat.one_mul (bits w 28 0), show (1 : Nat) = 2 ^ 0 from rfl,
    ← and_mask_eq w 28 0 (mask := 0x1FFFFFFF) (by decide) (by decide) rfl,
    ← and_mask_eq w 31 29 (mask := 0xE0000000) (by decide) (by decide) rfl, ← and_or_eq_add _ _ _ (by decide)]
  rfl

theorem readsBack_link {w : Word} (h : bits w 31 29 = 7) :
    ReadsBack .objectList w (if bit w 28 then .linkEnd (bits w 23 2) else .link (bits w 23 2)) := by
  have hn : bits w 23 2 < 2 ^ 22 := bits_lt w 23 2
  have hword : w &&& 0xF0FFFFFC = BitVec.ofNat 32 (4 * bits w 23 2 + flagAt (bit w 28) 28 + 2 ^ 29 * 7) := by
    rw [BitVec.ofNat_add, BitVec.ofNat_add, flagAt_bit, show 4 * bits w 23 2 = 2 ^ 2 * bits w 23 2 from rfl, ← h,
      ← and_mask_eq w 23 2 (mask := 0x00FFFFFC) (by decide) (by decide) rfl,
      ← and_mask_eq w 28 28 (mask := 0x10000000) (by decide) (by decide) rfl,
      ← and_mask_eq w 31 29 (mask := 0xE0000000) (by decide) (by decide) rfl,
      ← and_or_eq_add _ _ _ (by decide), ← and_or_eq_add _ _ _ (by decide)]
    rfl
  cases hb : bit w 28 <;> rw [hb] at hword
  · exact ⟨decide_eq_true hn, rfl, hword.symm⟩
  · exact ⟨decide_eq_true hn, rfl, hword.symm⟩

/-- An object-list entry, by its type (R125). -/
theorem readsBack_object (w : Word) : ReadsBack .objectList w (decodeObject w) := by
  have ht : bits w 31 29 < 8 := bits_lt w 31 29
  rcases (by omega : bits w 31 29 < 4 ∨ bits w 31 29 = 4 ∨ bits w 31 29 = 5 ∨ bits w 31 29 = 6 ∨ bits w 31 29 = 7)
    with h | h | h | h | h
  · rw [decodeObject_of_type_lt_four h]
    exact readsBack_strip h
  · rw [decodeObject_of_type_four h]
    exact readsBack_tarray h
  · rw [decodeObject_of_type_five h]
    exact readsBack_qarray h
  · rw [decodeObject_of_type_six h]
    exact readsBack_reserved110 h
  · rw [decodeObject_of_type_seven h]
    exact readsBack_link h

/-- A flag whose only row is the set one (R160). -/
theorem readsBack_flag {w : Word} {i : Nat} (hi : i < 32) (h : bit w i = true) {mask : Word}
    (hm : mask = BitVec.ofNat 32 (2 ^ i)) : BitVec.ofNat 32 (2 ^ i) = w &&& mask := by
  have hf := flagAt_bit w i
  rw [h] at hf
  rw [and_mask_eq w i i hi (Nat.le_refl i) (by simp [hm]), ← hf]
  rfl

/-- Reading a word in a format gives an instruction of that format, and loses none of the bits its row defines. -/
theorem decode_readsBack {f : Format} {w : Word} {i : Instr} (h : decode f w = .ok i) : ReadsBack f w i := by
  cases f with simp only [decode, Except.ok.injEq] at h
  | regionControl => exact h ▸ readsBack_region w
  | listPointer => exact h ▸ readsBack_pointer w
  | objectList => exact h ▸ readsBack_object w
  | depthMode => exact h ▸ readsBack_depth w
  | cullMode => exact h ▸ readsBack_cull w
  | volumeMode => exact h ▸ readsBack_volume w
  | srcInstr => exact h ▸ readsBack_src w
  | dstInstr => exact h ▸ readsBack_dst w
  | fogCtrl => exact h ▸ readsBack_fog w
  | filterMode => exact h ▸ readsBack_filter w
  | shadInstr => exact h ▸ readsBack_shad w
  | pixelFmt => exact h ▸ readsBack_pixelFmt w
  | scanOrder => exact h ▸ readsBack_scan w
  | palRamCtrl => exact h ▸ readsBack_palette w
  | fbPackmode => exact h ▸ readsBack_pack w
  | vqComp =>
    split at h
    next hb => cases h; exact ⟨rfl, rfl, readsBack_flag (i := 30) (by decide) hb rfl⟩
    next => cases h
  | mipMapped =>
    split at h
    next hb => cases h; exact ⟨rfl, rfl, readsBack_flag (i := 31) (by decide) hb rfl⟩
    next => cases h

/-- Settles O1: `decode_encode` for the word, and a word is its four bytes in order. -/
theorem decodeUndoesEncode : Obligations.DecodeUndoesEncode := by
  intro i h
  refine ⟨decode_encode h, fun rest => ?_⟩
  rw [decodeBytes, wordOfBytes_extract, decode_encode h]

/-- Settles O2: `decode_readsBack` at each format. -/
theorem encodeUndoesDecode : Obligations.EncodeUndoesDecode := fun _ _ _ h => decode_readsBack h

/-- Settles O4: `decode` reads each field as the slice of its bits; the type selects the row
(`decodeObject_of_type_…`). -/
theorem entryFields : Obligations.EntryFields := by
  intro w
  refine ⟨?region, ?pointer, fun h => ?strip, fun h => ?tarray, fun h => ?qarray, fun h => ?link⟩
  case region => simp only [decode, decodeRegion, bits_eq_extract, bit_eq_getLsbD]
  case pointer => simp only [decode, decodePointer, bits_eq_extract, bit_eq_getLsbD]
  case strip =>
    simp only [decode, decodeObject_of_type_lt_four (bits_type_lt_four h), bits_eq_extract, bit_eq_getLsbD]
  case tarray =>
    simp only [decode, decodeObject_of_type_four (bits_type_of_extract h), bits_eq_extract, bit_eq_getLsbD]
  case qarray =>
    simp only [decode, decodeObject_of_type_five (bits_type_of_extract h), bits_eq_extract, bit_eq_getLsbD]
  case link =>
    simp only [decode, decodeObject_of_type_seven (bits_type_of_extract h), bits_eq_extract, bit_eq_getLsbD]

/-- Settles O5: each word of the spec's examples, decoded by evaluation. -/
theorem exampleWordsDecode : Obligations.ExampleWordsDecode := by
  refine ⟨?_, ?_, ?_, ?_, ?_, ?_, ?_, ?_, ?_, ?_, ?_, ?_, ?_, ?_⟩ <;> rfl

end Sys2Proof
end

section
/-! SUPPORT. What a word does in each format: `exec` of a decoded word is its unit's operation with the field of the
word as the code. Every code of a field is a row of the table, so the decoder loses none of it (30_encoding.md). -/

namespace Sys2Proof.Machine

theorem exec_decodeDepth (w : Word) (s : State) :
    exec (decodeDepth w) s = .next (evalDepth (bits w 31 29) s) := by
  have hk := bits_lt w 31 29
  unfold decodeDepth
  generalize bits w 31 29 = k at hk
  interval_cases k <;> rfl

theorem exec_decodeCull (w : Word) (s : State) :
    exec (decodeCull w) s = .next (evalCull (bits w 28 27) s) := by
  have hk := bits_lt w 28 27
  unfold decodeCull
  generalize bits w 28 27 = k at hk
  interval_cases k <;> rfl

theorem exec_decodeVolume (w : Word) (s : State) : exec (decodeVolume w) s = evalVolume (bits w 31 29) s := by
  have hk := bits_lt w 31 29
  unfold decodeVolume
  generalize bits w 31 29 = k at hk
  interval_cases k <;> rfl

theorem exec_decodeSrc (w : Word) (s : State) : exec (decodeSrc w) s = .next (evalSrc (bits w 31 29) s) := by
  have hk := bits_lt w 31 29
  unfold decodeSrc
  generalize bits w 31 29 = k at hk
  interval_cases k <;> rfl

theorem exec_decodeDst (w : Word) (s : State) : exec (decodeDst w) s = .next (evalDst (bits w 28 26) s) := by
  have hk := bits_lt w 28 26
  unfold decodeDst
  generalize bits w 28 26 = k at hk
  interval_cases k <;> rfl

theorem exec_decodeFog (w : Word) (s : State) : exec (decodeFog w) s = .next (evalFog (bits w 23 22) s) := by
  have hk := bits_lt w 23 22
  unfold decodeFog
  generalize bits w 23 22 = k at hk
  interval_cases k <;> rfl

theorem exec_decodeFilter (w : Word) (s : State) :
    exec (decodeFilter w) s = .next (evalFilter (bits w 14 13) s) := by
  have hk := bits_lt w 14 13
  unfold decodeFilter
  generalize bits w 14 13 = k at hk
  interval_cases k <;> rfl

theorem exec_decodeShad (w : Word) (s : State) : exec (decodeShad w) s = .next (evalShad (bits w 7 6) s) := by
  have hk := bits_lt w 7 6
  unfold decodeShad
  generalize bits w 7 6 = k at hk
  interval_cases k <;> rfl

theorem exec_decodePalette (w : Word) (s : State) :
    exec (decodePalette w) s = .next (evalPalette (bits w 1 0) s) := by
  have hk := bits_lt w 1 0
  unfold decodePalette
  generalize bits w 1 0 = k at hk
  interval_cases k <;> rfl

theorem exec_decodeScan (w : Word) (s : State) :
    exec (decodeScan w) s = .next (if bit w 26 then evalStrideScan (bit w 25) s else evalTwiddled s) := by
  unfold decodeScan
  cases bit w 26 <;> rfl

/-- Fetching a texel is the FMT code of the texture word at the texel's coordinates (R420); format 7 has none (R415). -/
theorem exec_decodePixelFmt {s : State} (h : bits s.tsp.tcw 29 27 ≠ 7) (iu iv : Nat) :
    exec (decodePixelFmt s.tsp.tcw) (setTexel iu iv s) = .next (fetchTexel iu iv s) := by
  have hk := bits_lt s.tsp.tcw 29 27
  unfold decodePixelFmt fetchTexel
  dsimp only
  generalize bits s.tsp.tcw 29 27 = k at h hk
  interval_cases k
  iterate 7 rfl
  exact absurd rfl h

/-- A pack code aborts, or is a supported one (R601). -/
theorem exec_decodePack (w : Word) (s : State) :
    exec (decodePack w) s = .next (
      if bits w 2 0 = 1 then supportedPack writeback565 s
      else if bits w 2 0 = 6 then supportedPack writeback8888 s
      else abortFrame .fbPackmode s) := by
  have hk := bits_lt w 2 0
  unfold decodePack
  generalize bits w 2 0 = k at hk
  interval_cases k <;> rfl

end Sys2Proof.Machine
end

section
/-! SUPPORT. What a fetched word can do, by its format, and what an action of the pass driver can do: each said once, so
that an invariant of the steps is one lemma for either. -/

namespace Sys2Proof.Machine

/-! ### The writes of a writeback -/

/-- Pixel writes: VRAM and the errors change only, errors are appended, VRAM stays canonical (R510). -/
structure Stores (s t : State) : Prop where
  only : OnlyWrites s t
  errors : s.errors <+: t.errors
  wf : Memory.wf s.vram = true → Memory.wf t.vram = true

theorem Stores.refl (s : State) : Stores s s := ⟨OnlyWrites.refl s, List.prefix_refl _, id⟩

theorem Stores.trans {s t u : State} (h : Stores s t) (k : Stores t u) : Stores s u :=
  ⟨h.only.trans k.only, h.errors.trans k.errors, fun hw => k.wf (h.wf hw)⟩

theorem stores_foldl {f : Fin 1024 → State → State} (hf : ∀ i u, Stores u (f i u)) (l : List (Fin 1024))
    (s : State) : Stores s (l.foldl (fun t i => f i t) s) := by
  induction l generalizing s with
  | nil => exact Stores.refl s
  | cons i l ih => exact (hf i s).trans (ih (f i s))

theorem stores_writePixel565 (i : Fin 1024) (s : State) : Stores s (writePixel565 i s) where
  only := onlyWrites_write16 _ _ s
  errors := by
    rw [writePixel565, write16, touch_eq]
    exact List.prefix_append _ _
  wf h := by
    rw [writePixel565, write16_vram]
    exact Memory.wf_store16 h (pixelAddress_even s i) _

theorem stores_writePixel8888 (i : Fin 1024) (s : State) : Stores s (writePixel8888 i s) where
  only := onlyWrites_write32 _ _ s
  errors := by
    rw [writePixel8888, write32, touch_eq]
    exact List.prefix_append _ _
  wf h := by
    rw [writePixel8888, write32_vram]
    exact Memory.wf_store32 h (pixelAddress_word s i) _

theorem stores_writeback565 (s : State) : Stores s (writeback565 s) := stores_foldl stores_writePixel565 allPixels s

theorem stores_writeback8888 (s : State) : Stores s (writeback8888 s) := stores_foldl stores_writePixel8888 allPixels s

/-! ### Words -/

/-- What an object-list word can make of the state (R245 to R257). -/
inductive WalkEffect (s : State) : State → Prop
  /-- A primitive entry or a reserved one. -/
  | drawn {u : State} (h : Draws s u) : WalkEffect s (nextEntry u)
  /-- LINK. -/
  | linked (n : Nat) : WalkEffect s { s with listPtr := n * 4 }
  /-- LINK_END. -/
  | listEnd : WalkEffect s { s with ctl := s.resume }

theorem drawnEntry_walkEffect {draw : State → Res} {s t : State} (hd : ∀ u, draw s = .next u → Draws s u)
    (h : traversing (fun s => andThen (draw s) fun s1 => .next (nextEntry s1)) s = .next t) : WalkEffect s t := by
  obtain ⟨u, hu, h⟩ := andThen_eq_next.1 (traversing_next h)
  cases h
  exact .drawn (hd u hu)

theorem exec_walkEffect {i : Instr} (hf : i.format = .objectList) {s t : State} (h : exec i s = .next t) :
    WalkEffect s t := by
  cases i with
  | strip => exact drawnEntry_walkEffect (fun _ => renderStrip_draws) h
  | tarray | qarray => exact drawnEntry_walkEffect (fun _ => renderArray_draws) h
  | reserved110 => unfold exec execReserved110 at h; cases traversing_next h; exact .drawn (report_draws _ s)
  | link => unfold exec execLink at h; cases traversing_next h; exact .linked _
  | linkEnd => unfold exec execLinkEnd at h; cases traversing_next h; exact .listEnd
  | _ => cases hf

/-- What a word can make of the state in the format it is fetched in. -/
inductive WordEffect (s : State) : Format → State → Prop
  /-- A control word opens the entry (R121, R240). -/
  | opened (w : Word) :
      WordEffect s .regionControl { s with entry := openedEntry s w, ptrIndex := 0, ctl := .pointer }
  /-- A pointer word fills the next list of the entry (R122, R240). -/
  | pointer (w : Word) : WordEffect s .listPointer (takePointer (pointerOfWord w) s)
  /-- An object-list word. -/
  | walked {t : State} (h : WalkEffect s t) : WordEffect s .objectList t
  /-- A code that works on the units' registers. -/
  | quiet {f : Format} {t : State} (h : QuietFrame s t) : WordEffect s f t
  /-- A VolumeMode code (R352 to R354). -/
  | folded {k : Nat} {t : State} (h : evalVolume k s = .next t) : WordEffect s .volumeMode t
  /-- A DST code (R461). -/
  | blended (k : Nat) : WordEffect s .dstInstr (evalDst k s)
  /-- An unsupported pack code (R601). -/
  | aborted : WordEffect s .fbPackmode (abortFrame .fbPackmode s)
  /-- A supported pack code (R231, R601). -/
  | packed {write : State → State} (h : ∀ u, Stores u (write u)) : WordEffect s .fbPackmode (supportedPack write s)

theorem ShadeFrame.wordEffect {s t : State} {f : Format} (h : ShadeFrame s t) : WordEffect s f t := .quiet h.quiet

/-- A texel format is a fetch of its own, or refused (R420). -/
theorem exec_decodePixelFmt_effect {w : Word} {s t : State} (h : exec (decodePixelFmt w) s = .next t) :
    WordEffect s .pixelFmt t := by
  unfold decodePixelFmt at h
  split at h
  · cases h; exact (shadeFrame_evalArgb1555 _ s).wordEffect
  · cases h; exact (shadeFrame_evalRgb565 _ s).wordEffect
  · cases h; exact (shadeFrame_evalArgb4444 _ s).wordEffect
  · cases h; exact (shadeFrame_evalYuv422 _ s).wordEffect
  · cases h; exact (shadeFrame_evalBump _ s).wordEffect
  · cases h; exact (shadeFrame_evalPal4 _ _ s).wordEffect
  · cases h; exact (shadeFrame_evalPal8 _ _ s).wordEffect
  · cases h

theorem exec_decodePack_effect (w : Word) (s : State) :
    ∃ t, exec (decodePack w) s = .next t ∧ WordEffect s .fbPackmode t := by
  rw [exec_decodePack]
  split
  · exact ⟨_, rfl, .packed stores_writeback565⟩
  · split
    · exact ⟨_, rfl, .packed stores_writeback8888⟩
    · exact ⟨_, rfl, .aborted⟩

/-- Everything a decoded word that completes can do. -/
theorem exec_wordEffect {f : Format} {w : Word} {i : Instr} {s t : State} (hd : decode f w = .ok i)
    (h : exec i s = .next t) : WordEffect s f t := by
  have hf : i.format = f := (decode_readsBack hd).2.1
  cases f with simp only [decode, Except.ok.injEq] at hd
  | objectList => exact .walked (exec_walkEffect hf h)
  | regionControl =>
    rw [← hd, exec_decodeRegion] at h
    cases h
    exact .opened w
  | listPointer =>
    rw [← hd, exec_decodePointer] at h
    cases h
    exact .pointer w
  | depthMode =>
    rw [← hd, exec_decodeDepth] at h
    cases h
    exact .quiet (quietFrame_evalDepth _ s)
  | cullMode =>
    rw [← hd, exec_decodeCull] at h
    cases h
    exact .quiet (quietFrame_evalCull _ s)
  | volumeMode =>
    rw [← hd, exec_decodeVolume] at h
    exact .folded h
  | srcInstr =>
    rw [← hd, exec_decodeSrc] at h
    cases h
    exact (shadeFrame_evalSrc _ s).wordEffect
  | dstInstr =>
    rw [← hd, exec_decodeDst] at h
    cases h
    exact .blended _
  | fogCtrl =>
    rw [← hd, exec_decodeFog] at h
    cases h
    exact (shadeFrame_evalFog _ s).wordEffect
  | filterMode =>
    rw [← hd, exec_decodeFilter] at h
    cases h
    exact (shadeFrame_evalFilter _ s).wordEffect
  | shadInstr =>
    rw [← hd, exec_decodeShad] at h
    cases h
    exact (shadeFrame_evalShad _ s).wordEffect
  | pixelFmt =>
    rw [← hd] at h
    exact exec_decodePixelFmt_effect h
  | vqComp =>
    split at hd
    next => cases hd; cases h
    next => cases hd
  | scanOrder =>
    rw [← hd, exec_decodeScan] at h
    split at h
    · cases h; exact (shadeFrame_evalStrideScan _ s).wordEffect
    · cases h; exact (shadeFrame_evalTwiddled s).wordEffect
  | mipMapped =>
    split at hd
    next => cases hd; cases h; exact (shadeFrame_evalMip s).wordEffect
    next => cases hd
  | palRamCtrl =>
    rw [← hd, exec_decodePalette] at h
    cases h
    exact (shadeFrame_evalPalette _ s).wordEffect
  | fbPackmode =>
    rw [← hd] at h
    obtain ⟨u, hu, he⟩ := exec_decodePack_effect w s
    rw [hu] at h
    cases h
    exact he

/-- A fetch that reaches a next state reports at most, and then does what its word's format allows. -/
theorem stepFetch_wordEffect {f : Format} {src : FetchSource} {s t : State} (h : stepFetch f src s = .next t) :
    ∃ u, WordEffect (fetchState src s) f u ∧ leaveOperand u = t := by
  obtain ⟨-, i, u, hd, hu, ht⟩ := stepFetch_eq_next.1 h
  exact ⟨u, exec_wordEffect hd hu, ht⟩

/-- Ending an operand position moves the driver only. -/
theorem leaveOperand_eq (s : State) : leaveOperand s = { s with ctl := (leaveOperand s).ctl } := by
  unfold leaveOperand
  split <;> rfl

/-- A supported pack code writes the tile back or not at all, and moves the driver. -/
theorem supportedPack_stores {write : State → State} (h : ∀ u, Stores u (write u)) (s : State) :
    ∃ u c, Stores s u ∧ supportedPack write s = { u with ctl := c } := by
  unfold supportedPack
  split
  · exact ⟨s, _, Stores.refl s, rfl⟩
  · exact ⟨write s, _, h s, rfl⟩
  · exact ⟨write s, (write s).ctl, h s, rfl⟩

end Sys2Proof.Machine
end

section
/-! PROOF. The invariants of a step (R42, R45, R57, R100, R108, R304, R330, R356, R603). No operation sets a stencil or
status bit from bit 2 on (`TileKept`), and what the driver's actions leave alone is one frame (`DriverFrame`). -/

namespace Sys2Proof.Machine

/-! ### The reserved buffer bits and the AND bit -/

/-- No stencil bit and no status bit from bit 2 on is set that was not. -/
structure PixelKept (p q : Pixel) : Prop where
  stencil : ∀ k, 2 ≤ k → q.stencil.getLsbD k = true → p.stencil.getLsbD k = true
  status : ∀ k, 2 ≤ k → q.status.getLsbD k = true → p.status.getLsbD k = true

theorem PixelKept.of_eq {p q : Pixel} (hs : q.stencil = p.stencil) (ht : q.status = p.status) : PixelKept p q :=
  ⟨fun _ _ h => hs ▸ h, fun _ _ h => ht ▸ h⟩

theorem PixelKept.trans {p q r : Pixel} (h : PixelKept p q) (k : PixelKept q r) : PixelKept p r :=
  ⟨fun j hj hr => h.stencil j hj (k.stencil j hj hr), fun j hj hr => h.status j hj (k.status j hj hr)⟩

/-- A mask clears bits. -/
theorem getLsbD_of_and {b m : Byte} {k : Nat} (h : (b &&& m).getLsbD k = true) : b.getLsbD k = true := by
  rw [BitVec.getLsbD_and, Bool.and_eq_true] at h
  exact h.1

/-- ORing a number below 4 in sets bits 0 and 1 only. -/
theorem getLsbD_of_or {b m : Byte} {k : Nat} (hm : m.toNat < 2 ^ 2) (hk : 2 ≤ k) (h : (b ||| m).getLsbD k = true) :
    b.getLsbD k = true := by
  have h0 : m.getLsbD k = false := Nat.testBit_lt_two_pow (hm.trans_le (Nat.pow_le_pow_right (by decide) hk))
  simpa [BitVec.getLsbD_or, h0] using h

/-- A bit of a folded stencil from bit 2 on was set before (R352, R353). -/
theorem getLsbD_of_foldOr {b : Byte} {k : Nat} (hk : 2 ≤ k) (h : (foldOr b).getLsbD k = true) :
    b.getLsbD k = true := by
  rw [getLsbD_foldOr, if_neg (by omega), if_neg (by omega)] at h
  exact h

theorem getLsbD_of_foldAnd {b : Byte} {k : Nat} (h : (foldAnd b).getLsbD k = true) : b.getLsbD k = true := by
  have h1 := getLsbD_of_and h
  split at h1
  · exact h1
  · exact getLsbD_of_and h1

theorem pixelKept_clearWritten (p : Pixel) : PixelKept p (clearWritten p) :=
  ⟨fun _ _ h => h, fun _ _ h => getLsbD_of_and h⟩

theorem pixelKept_setWritten (p : Pixel) : PixelKept p (setWritten p) :=
  ⟨fun _ _ h => h, fun _ hk h => getLsbD_of_or (by decide) hk h⟩

theorem pixelKept_zHole (bg : Word) (p : Pixel) : PixelKept p (zHole bg p) :=
  ⟨fun _ _ h => h, fun _ hk h => getLsbD_of_and (getLsbD_of_or (by decide) hk h)⟩

/-- Clearing WRITTEN in a pixel that differs elsewhere only. -/
theorem pixelKept_clearWritten_of {p q : Pixel} (hs : q.stencil = p.stencil) (ht : q.status = p.status) :
    PixelKept p (clearWritten q) :=
  (PixelKept.of_eq hs ht).trans (pixelKept_clearWritten q)

theorem pixelKept_setWritten_of {p q : Pixel} (hs : q.stencil = p.stencil) (ht : q.status = p.status) :
    PixelKept p (setWritten q) :=
  (PixelKept.of_eq hs ht).trans (pixelKept_setWritten q)

theorem pixelKept_writeFragment (isp tag zf : Word) (p : Pixel) : PixelKept p (writeFragment isp tag zf p) :=
  pixelKept_clearWritten_of rfl rfl

theorem pixelKept_foldOr (p : Pixel) : PixelKept p { p with stencil := foldOr p.stencil } :=
  ⟨fun _ hk h => getLsbD_of_foldOr hk h, fun _ _ h => h⟩

theorem pixelKept_foldAnd (p : Pixel) : PixelKept p { p with stencil := foldAnd p.stencil } :=
  ⟨fun _ _ h => getLsbD_of_foldAnd h, fun _ _ h => h⟩

/-- `PixelKept` at every pixel of the tile. -/
def TileKept (s t : State) : Prop := ∀ i, PixelKept (pixel s i) (pixel t i)

theorem TileKept.of_eq {s t : State} (h : t.tile = s.tile) : TileKept s t :=
  fun i => by rw [pixel_congr h]; exact .of_eq rfl rfl

theorem TileKept.trans {s t u : State} (h : TileKept s t) (k : TileKept t u) : TileKept s u :=
  fun i => (h i).trans (k i)

theorem tileKept_mapTile {f : Pixel → Pixel} (hf : ∀ p, PixelKept p (f p)) (s : State) : TileKept s (mapTile f s) :=
  fun i => by rw [pixel_mapTile]; exact hf _

theorem tileKept_updatePixel {i : Fin 1024} {f : Pixel → Pixel} {s : State}
    (hf : PixelKept (pixel s i) (f (pixel s i))) :
    TileKept s (updatePixel i f s) := by
  intro j
  by_cases hj : j = i
  · subst hj
    rw [pixel_updatePixel_self]
    exact hf
  · rw [pixel_updatePixel_other i j f s hj]
    exact .of_eq rfl rfl

/-- Drawing keeps the bits. -/
theorem drawLaw_tileKept (m : RenderMode) : DrawLaw m TileKept where
  refl _ := .of_eq rfl
  trans _ _ _ := .trans
  quiet _ _ h := .of_eq h.tile
  cache _ _ _ _ _ := .of_eq rfl
  write _ _ _ _ _ _ := tileKept_updatePixel (pixelKept_writeFragment _ _ _ _)
  pass0 _ _ _ _ _ _ _ := tileKept_updatePixel (pixelKept_writeFragment _ _ _ _)
  passN _ _ _ _ _ _ _ _ := tileKept_updatePixel (pixelKept_writeFragment _ _ _ _)
  sort _ tag zf _ _ _ _ := tileKept_updatePixel (f := fun p => clearWritten { p with depthTest := zf, tag := tag })
    (pixelKept_clearWritten_of rfl rfl)
  blend _ _ _ _ := tileKept_updatePixel (.of_eq rfl rfl)
  volume _ _ _ := tileKept_updatePixel ⟨fun _ hk h => getLsbD_of_or (by decide) hk h, fun _ _ h => h⟩
  foldOr _ s := tileKept_mapTile pixelKept_foldOr s
  foldAnd _ s := tileKept_mapTile pixelKept_foldAnd s

/-! ### The frame of the driver's actions -/

/-- What the driver's actions leave alone after a frame has begun. -/
structure DriverFrame (s t : State) : Prop where
  vram : t.vram = s.vram
  fpuCache : t.fpuCache = s.fpuCache ∨ t.fpuCache = []
  moreToDraw : t.moreToDraw = true → s.moreToDraw = true
  errors : s.errors <+: t.errors
  tile : TileKept s t

theorem DriverFrame.trans {s t u : State} (h : DriverFrame s t) (k : DriverFrame t u) : DriverFrame s u where
  vram := k.vram.trans h.vram
  fpuCache := k.fpuCache.elim (fun hk => hk ▸ h.fpuCache) .inr
  moreToDraw := fun hu => h.moreToDraw (k.moreToDraw hu)
  errors := h.errors.trans k.errors
  tile := h.tile.trans k.tile

/-- A change of the driver's own fields. -/
theorem DriverFrame.of_eq {s t : State} (hv : t.vram = s.vram) (hc : t.fpuCache = s.fpuCache)
    (hm : t.moreToDraw = s.moreToDraw) (he : t.errors = s.errors) (ht : t.tile = s.tile) : DriverFrame s t :=
  ⟨hv, .inl hc, fun h => hm ▸ h, he ▸ List.prefix_refl _, .of_eq ht⟩

theorem driverFrame_mapTile (f : Pixel → Pixel) (hf : ∀ p, PixelKept p (f p)) (s : State) :
    DriverFrame s (mapTile f s) :=
  ⟨rfl, .inl rfl, id, List.prefix_refl _, tileKept_mapTile hf s⟩

/-- A change of every pixel that leaves stencil and status alone. -/
theorem driverFrame_mapTile_of_eq (f : Pixel → Pixel) (hs : ∀ p, (f p).stencil = p.stencil)
    (ht : ∀ p, (f p).status = p.status) (s : State) : DriverFrame s (mapTile f s) :=
  driverFrame_mapTile f (fun p => .of_eq (hs p) (ht p)) s

theorem driverFrame_updatePixel {i : Fin 1024} {f : Pixel → Pixel} {s : State}
    (hf : PixelKept (pixel s i) (f (pixel s i))) : DriverFrame s (updatePixel i f s) :=
  ⟨rfl, .inl rfl, id, List.prefix_refl _, tileKept_updatePixel hf⟩

/-- Moving the driver, and clearing `more_to_draw`, is in the frame. -/
theorem driverFrame_ctl (k : Ctl) (s : State) : DriverFrame s { s with ctl := k } := .of_eq rfl rfl rfl rfl rfl

theorem tagLaw_driverFrame (m : RenderMode) : TagLaw m DriverFrame where
  refl _ := .of_eq rfl rfl rfl rfl rfl
  trans _ _ _ := .trans
  quiet _ _ h := ⟨h.vram, .inl h.fpuCache, fun hm => h.moreToDraw ▸ hm, h.errors, .of_eq h.tile⟩
  hole _ _ _ := driverFrame_updatePixel (pixelKept_zHole _ _)
  shaded _ _ _ := driverFrame_updatePixel (pixelKept_setWritten_of rfl rfl)

theorem driverFrame_renderTagsThen {m : RenderMode} {k : Ctl} {s t : State} (h : renderTagsThen m k s = .next t) :
    DriverFrame s t := by
  obtain ⟨u, hu, h⟩ := andThen_eq_next.1 h
  cases h
  exact ((tagLaw_driverFrame m).renderParamTags hu).trans (driverFrame_ctl k u)

theorem driverFrame_traverse (p : ListPointer) (m : RenderMode) (k : Ctl) (s : State) :
    DriverFrame s (traverse p m k s) := by
  have h : DriverFrame s { s with mode := m, listPtr := p.address, resume := k, ctl := .walk } :=
    .of_eq rfl rfl rfl rfl rfl
  unfold traverse
  dsimp only
  split
  · exact h.trans (driverFrame_mapTile_of_eq (fun q => { q with depthPrev := q.depthTest }) (fun _ => rfl)
      (fun _ => rfl) _)
  · exact h

theorem driverFrame_traverseUnlessEmpty (p : ListPointer) (m : RenderMode) (k : Ctl) (s : State) :
    DriverFrame s (traverseUnlessEmpty p m k s) := by
  unfold traverseUnlessEmpty
  split
  · exact driverFrame_ctl k s
  · exact driverFrame_traverse p m k s

theorem driverFrame_checkScaler (s : State) : DriverFrame s (checkScaler s) := by
  unfold checkScaler
  dsimp only
  split_ifs <;> exact .of_eq rfl rfl rfl rfl rfl

theorem driverFrame_tileSetup (s : State) : DriverFrame s (tileSetup s) := by
  have hbits : ∀ k, (0 : Byte).getLsbD k ≠ true := fun k h => by simp at h
  unfold tileSetup
  dsimp only
  split
  · exact ⟨rfl, .inr rfl, id, List.prefix_refl _,
      tileKept_mapTile (f := fun p => { p with status := 0 })
        (fun p => ⟨fun _ _ h => h, fun k _ h => absurd h (hbits k)⟩)
        { s with tilex := s.entry.tilex, tiley := s.entry.tiley, fpuCache := [] }⟩
  · exact ⟨rfl, .inr rfl, id, List.prefix_refl _,
      tileKept_mapTile (f := clearedPixel s)
        (fun p => ⟨fun k _ h => absurd h (hbits k), fun k _ h => absurd h (hbits k)⟩)
        { s with tilex := s.entry.tilex, tiley := s.entry.tiley, fpuCache := [], andPhase := false }⟩

theorem driverFrame_opaqueStart (s : State) : DriverFrame s (opaqueStart s) := by
  unfold opaqueStart
  split
  · exact driverFrame_ctl _ s
  · exact driverFrame_traverse _ _ _ s

theorem driverFrame_ptStart (s : State) : DriverFrame s (ptStart s) := by
  unfold ptStart
  split
  · exact driverFrame_ctl _ s
  · exact (driverFrame_mapTile_of_eq (fun p => { p with depthRef := fltMax }) (fun _ => rfl) (fun _ => rfl) s).trans
      (.of_eq rfl rfl rfl rfl rfl)

theorem driverFrame_clearMore (b : Bool) (s : State) : DriverFrame s { s with moreToDraw := false, andPhase := b } :=
  ⟨rfl, .inl rfl, fun h => Bool.noConfusion h, List.prefix_refl _, .of_eq rfl⟩

theorem driverFrame_ptIterate (s : State) : DriverFrame s (ptIterate s) :=
  ((driverFrame_clearMore s.andPhase s).trans
    (driverFrame_mapTile (fun p => { p with stencil := clearBit0 p.stencil })
      (fun _ => ⟨fun _ _ h => getLsbD_of_and h, fun _ _ h => h⟩) _)).trans
    (driverFrame_traverse _ _ _ _)

theorem driverFrame_ptTest (s : State) : DriverFrame s (ptTest s) := by
  unfold ptTest
  split
  · exact (driverFrame_mapTile_of_eq (fun p => { p with depthRef := p.depthTest }) (fun _ => rfl)
      (fun _ => rfl) s).trans
      (driverFrame_ctl _ _)
  · exact driverFrame_ctl _ s

theorem driverFrame_ptModStart (s : State) : DriverFrame s (ptModStart s) := by
  unfold ptModStart
  split
  · exact driverFrame_ctl _ s
  · exact driverFrame_traverse _ _ _ s

theorem driverFrame_transStart (s : State) : DriverFrame s (transStart s) := by
  unfold transStart
  split_ifs
  · exact driverFrame_ctl _ s
  · exact driverFrame_traverse _ _ _ s
  · exact (driverFrame_mapTile_of_eq (fun p => { p with tag := 0xFFFFFFFF }) (fun _ => rfl) (fun _ => rfl) s).trans
      (driverFrame_ctl _ _)

theorem driverFrame_sortIterate (s : State) : DriverFrame s (sortIterate s) :=
  ((driverFrame_clearMore false s).trans
    (driverFrame_mapTile sortPixel (fun _ => ⟨fun _ _ h => by simp [sortPixel] at h, fun _ _ h => h⟩) _)).trans
    (driverFrame_traverse _ _ _ _)

theorem driverFrame_finishFrame (s : State) : DriverFrame s (finishFrame s) := .of_eq rfl rfl rfl rfl rfl

theorem driverFrame_endEntry (s : State) : DriverFrame s (endEntry s) := by
  unfold endEntry
  dsimp only
  split_ifs
  · exact driverFrame_finishFrame s
  · exact .of_eq rfl rfl rfl rfl rfl
  · exact ⟨rfl, .inl rfl, id, List.prefix_append _ _, .of_eq rfl⟩

/-- Every action of the driver but the one that begins a frame. -/
theorem driverStep_frame {s t : State} (hi : s.ctl ≠ .idle) (h : driverStep s = .next t) : DriverFrame s t := by
  cases hc : s.ctl with simp only [driverStep, hc, Host.Outcome.next.injEq] at h
  | idle => exact absurd hc hi
  | opaqueTags | ptMvTags | sortTags => exact driverFrame_renderTagsThen h
  | ptTags =>
    exact DriverFrame.trans (t := { s with ptIteration := s.ptIteration + 1 }) (.of_eq rfl rfl rfl rfl rfl)
      (driverFrame_renderTagsThen h)
  | checkScaler => exact h ▸ driverFrame_checkScaler s
  | setup => exact h ▸ (driverFrame_tileSetup s).trans (driverFrame_ctl _ _)
  | opaqueStart => exact h ▸ driverFrame_opaqueStart s
  | opaqueModStart | sortModStart => exact h ▸ driverFrame_traverseUnlessEmpty _ _ _ s
  | ptStart => exact h ▸ driverFrame_ptStart s
  | ptIterate => exact h ▸ driverFrame_ptIterate s
  | ptTest => exact h ▸ driverFrame_ptTest s
  | ptModStart => exact h ▸ driverFrame_ptModStart s
  | transStart => exact h ▸ driverFrame_transStart s
  | sortIterate => exact h ▸ driverFrame_sortIterate s
  | sortTest | writeback => exact h ▸ driverFrame_ctl _ s
  | entryEnd => exact h ▸ driverFrame_endEntry s
  | checkPack | region | pointer | walk | operand => exact h ▸ .of_eq rfl rfl rfl rfl rfl

theorem driverStep_idle {s t : State} (hi : s.ctl = .idle) (h : driverStep s = .next t) : t = beginFrame s := by
  simp only [driverStep, hi, Host.Outcome.next.injEq] at h
  exact h.symm

end Sys2Proof.Machine
end

section
/-! PROOF. What every step keeps: the errors so far, the reserved bits, the cache (R42, R45, R57, R304, R356, R603); and
which steps can write VRAM or set `more_to_draw` (R108, R330). -/

namespace Sys2Proof.Machine

/-! ### Errors, bits and cache together -/

/-- Errors are appended, no reserved bit is set, a sound cache stays sound. -/
structure Keeps (s t : State) : Prop where
  errors : s.errors <+: t.errors
  tile : TileKept s t
  cache : CacheSound s → CacheSound t

theorem Keeps.trans {s t u : State} (h : Keeps s t) (k : Keeps t u) : Keeps s u :=
  ⟨h.errors.trans k.errors, h.tile.trans k.tile, fun hc => k.cache (h.cache hc)⟩

theorem CacheSound.of_eq {s t : State} (h : t.fpuCache = s.fpuCache) (hs : CacheSound s) : CacheSound t := by
  unfold CacheSound
  rw [h]
  exact hs

theorem Keeps.of_eq {s t : State} (he : t.errors = s.errors) (ht : t.tile = s.tile) (hc : t.fpuCache = s.fpuCache) :
    Keeps s t :=
  ⟨he ▸ List.prefix_refl _, .of_eq ht, .of_eq hc⟩

theorem QuietFrame.keeps {s t : State} (h : QuietFrame s t) : Keeps s t :=
  ⟨h.errors, .of_eq h.tile, .of_eq h.fpuCache⟩

theorem DriverFrame.keeps {s t : State} (h : DriverFrame s t) : Keeps s t where
  errors := h.errors
  tile := h.tile
  cache hs := h.fpuCache.elim (fun hc => .of_eq hc hs) fun hc e he => by rw [hc] at he; cases he

theorem Stores.keeps {s t : State} (h : Stores s t) : Keeps s t :=
  ⟨h.errors, .of_eq (by rw [h.only]), .of_eq (by rw [h.only])⟩

/-- A primitive the ISP rasterizes may go into the cache (R57, R320). -/
theorem cacheSound_cacheInsert {p : DrawParameters} (hp : canRasterize p) {s : State} (h : CacheSound s) :
    CacheSound (cacheInsert p s) := by
  intro e he
  rcases List.mem_cons.1 he with rfl | he
  · exact ⟨rfl, hp⟩
  · exact h e (List.mem_filter.1 he).1

theorem drawLaw_cacheSound (m : RenderMode) : DrawLaw m (fun s t => CacheSound s → CacheSound t) where
  refl _ := id
  trans _ _ _ h k := k ∘ h
  quiet _ _ h := .of_eq h.fpuCache
  cache _ _ _ _ hp := cacheSound_cacheInsert hp
  write _ _ _ _ _ _ := .of_eq rfl
  pass0 _ _ _ _ _ _ _ := .of_eq rfl
  passN _ _ _ _ _ _ _ _ := .of_eq rfl
  sort _ _ _ _ _ _ _ := .of_eq rfl
  blend _ _ _ _ := .of_eq rfl
  volume _ _ _ := .of_eq rfl
  foldOr _ _ := .of_eq rfl
  foldAnd _ _ := .of_eq rfl

theorem Draws.keeps {s t : State} (h : Draws s t) : Keeps s t :=
  ⟨h.drawFrame.errors, h _ (drawLaw_tileKept _), h _ (drawLaw_cacheSound _)⟩

theorem WalkEffect.keeps {s t : State} (h : WalkEffect s t) : Keeps s t := by
  cases h with
  | drawn h => exact h.keeps.trans (.of_eq rfl rfl rfl)
  | linked | listEnd => exact .of_eq rfl rfl rfl

/-- A fold that is not refused (R352 to R354). -/
theorem evalVolume_next {k : Nat} {s t : State} (h : evalVolume k s = .next t) :
    t = s ∨ t = summarizeStencilOr s ∨ t = summarizeStencilAnd s := by
  unfold evalVolume at h
  split at h
  · cases h; exact .inl rfl
  · cases h; exact .inr (.inl rfl)
  · cases h; exact .inr (.inr rfl)
  · cases h

theorem evalVolume_keeps {k : Nat} {s t : State} (h : evalVolume k s = .next t) : Keeps s t := by
  rcases evalVolume_next h with rfl | rfl | rfl
  · exact .of_eq rfl rfl rfl
  · exact ⟨List.prefix_refl _, tileKept_mapTile pixelKept_foldOr s, .of_eq rfl⟩
  · exact ⟨List.prefix_refl _, tileKept_mapTile pixelKept_foldAnd s, .of_eq rfl⟩

theorem evalDst_keeps (k : Nat) (s : State) : Keeps s (evalDst k s) :=
  ⟨List.prefix_refl _, tileKept_updatePixel (.of_eq rfl rfl), .of_eq rfl⟩

theorem WordEffect.keeps {f : Format} {s t : State} (h : WordEffect s f t) : Keeps s t := by
  cases h with
  | opened | pointer | aborted => exact .of_eq rfl rfl rfl
  | walked h => exact h.keeps
  | quiet h => exact h.keeps
  | folded h => exact evalVolume_keeps h
  | blended k => exact evalDst_keeps k s
  | packed h =>
    obtain ⟨u, c, hu, ht⟩ := supportedPack_stores h s
    rw [ht]
    exact hu.keeps.trans (.of_eq rfl rfl rfl)

theorem leaveOperand_keeps (s : State) : Keeps s (leaveOperand s) := by
  rw [leaveOperand_eq]
  exact .of_eq rfl rfl rfl

theorem stepFetch_keeps {f : Format} {src : FetchSource} {s t : State} (h : stepFetch f src s = .next t) :
    Keeps s t := by
  obtain ⟨u, hu, rfl⟩ := stepFetch_wordEffect h
  exact ((shadeFrame_fetchState src s).quiet.keeps.trans hu.keeps).trans (leaveOperand_keeps u)

/-- Every step but the first of a frame, which empties the error list (R53). -/
theorem step_keeps {s t : State} (hi : s.ctl ≠ .idle) (h : step s = .next t) : Keeps s t := by
  rcases step_eq_next.1 h with ⟨f, src, -, hf⟩ | ⟨-, hd⟩
  · exact stepFetch_keeps hf
  · exact (driverStep_frame hi hd).keeps

theorem step_idle {s t : State} (hi : s.ctl = .idle) (h : step s = .next t) : t = beginFrame s := by
  rcases step_eq_next.1 h with ⟨f, src, hp, -⟩ | ⟨-, hd⟩
  · simp only [fetchPoint, hi, reduceCtorEq] at hp
  · exact driverStep_idle hi hd

theorem step_tileKept {s t : State} (h : step s = .next t) : TileKept s t := by
  by_cases hi : s.ctl = .idle
  · exact .of_eq (by rw [step_idle hi h]; rfl)
  · exact (step_keeps hi h).tile

/-- Settles O17: `step_keeps`. -/
theorem errorsOnlyGrow : Obligations.ErrorsOnlyGrow := fun _ _ hi h => (step_keeps hi h).errors

/-- Settles O16: `step_keeps`, and the first step of a frame leaves the cache alone. -/
theorem cacheStaysSound : Obligations.CacheStaysSound := by
  intro s t hs h
  by_cases hi : s.ctl = .idle
  · exact .of_eq (by rw [step_idle hi h]; rfl) hs
  · exact (step_keeps hi h).cache hs

theorem pixel_reset (i : Fin 1024) : pixel State.reset i = Pixel.powerOn := by
  simp [pixel, State.reset]

/-- Settles O19: no step sets a stencil bit from 2 on, and `inside` asks for bit 2 where `and_phase` is set. -/
theorem andBitIsNeverSet : Obligations.AndBitIsNeverSet := by
  refine ⟨fun i => ?reset, fun s t hs h i => ?step, fun s i hs ha => ?inside⟩
  case reset => rw [pixel_reset]; rfl
  case step =>
    refine Bool.eq_false_iff.2 fun hb => ?_
    exact Bool.eq_false_iff.1 (hs i) ((step_tileKept h i).stencil 2 (Nat.le_refl 2) hb)
  case inside => rw [inside, hs i, ha]; simp

/-! ### VRAM and `more_to_draw` -/

/-- Where a frame fetches, and which format it reads there (R240, R245, R501, R601). -/
theorem fetchPoint_format {s : State} {f : Format} {src : FetchSource} (ho : ∀ g a, s.ctl ≠ .operand g a)
    (h : fetchPoint s = some (f, src)) :
    f = .regionControl ∨ f = .listPointer ∨ (f = .objectList ∧ s.ctl = .walk) ∨
      (f = .fbPackmode ∧ (s.ctl = .checkPack ∨ (s.ctl = .writeback ∧ s.entry.noWriteout = false))) := by
  cases hc : s.ctl with simp only [fetchPoint, hc, reduceCtorEq, Option.some.injEq, Prod.mk.injEq] at h
  | operand g a => exact absurd hc (ho g a)
  | region => exact .inl h.1.symm
  | pointer => exact .inr (.inl h.1.symm)
  | walk => exact .inr (.inr (.inl ⟨h.1.symm, rfl⟩))
  | checkPack => exact .inr (.inr (.inr ⟨h.1.symm, .inl rfl⟩))
  | writeback =>
    cases hw : s.entry.noWriteout with simp [hw] at h
    | false => exact .inr (.inr (.inr ⟨h.1.symm, .inr ⟨rfl, rfl⟩⟩))

/-- Only the writeback writes VRAM: at the configuration check a pack code does not (R601). -/
theorem WordEffect.vram_eq {f : Format} {s t : State} (h : WordEffect s f t)
    (hp : f = .fbPackmode → s.ctl = .checkPack) : t.vram = s.vram := by
  cases h with
  | opened | pointer | aborted => rfl
  | walked h =>
    cases h with
    | drawn h => exact h.drawFrame.vram
    | linked | listEnd => rfl
  | quiet h => exact h.vram
  | folded h => rcases evalVolume_next h with rfl | rfl | rfl <;> rfl
  | blended k => rfl
  | packed h => rw [supportedPack, hp rfl]

theorem leaveOperand_vram (s : State) : (leaveOperand s).vram = s.vram := by rw [leaveOperand_eq]

/-- Settles O12: the words of the other formats and the driver's actions leave VRAM alone. -/
theorem vramWrittenOnlyByWriteback : Obligations.VramWrittenOnlyByWriteback := by
  intro s t ho h hne
  rcases step_eq_next.1 h with ⟨f, src, hp, hf⟩ | ⟨-, hd⟩
  · obtain ⟨u, hu, rfl⟩ := stepFetch_wordEffect hf
    have hfs := shadeFrame_fetchState src s
    have hsame : ¬ (f = .fbPackmode → (fetchState src s).ctl = .checkPack) := fun hk =>
      hne (((leaveOperand_vram u).trans (hu.vram_eq hk)).trans hfs.vram)
    rw [hfs.ctl] at hsame
    rcases fetchPoint_format ho hp with rfl | rfl | ⟨rfl, -⟩ | ⟨-, hc | hw⟩
    · exact absurd (fun k => Format.noConfusion k) hsame
    · exact absurd (fun k => Format.noConfusion k) hsame
    · exact absurd (fun k => Format.noConfusion k) hsame
    · exact absurd (fun _ => hc) hsame
    · exact hw
  · by_cases hi : s.ctl = .idle
    · exact absurd (by rw [driverStep_idle hi hd]; rfl) hne
    · exact absurd (driverStep_frame hi hd).vram hne

/-- Outside the peeling modes drawing leaves `more_to_draw` alone (R321, R327, R328). -/
theorem drawLaw_moreToDraw {m : RenderMode} (h0 : m ≠ .punchthroughPass0) (hN : m ≠ .punchthroughPassN)
    (hs : m ≠ .translucentAutosort) : DrawLaw m (fun s t => t.moreToDraw = s.moreToDraw) where
  refl _ := rfl
  trans _ _ _ h k := k.trans h
  quiet _ _ h := h.moreToDraw
  cache _ _ _ _ _ := rfl
  write _ _ _ _ _ _ := rfl
  pass0 h := absurd h h0
  passN h := absurd h hN
  sort h := absurd h hs
  blend _ _ _ _ := rfl
  volume _ _ _ := rfl
  foldOr _ _ := rfl
  foldAnd _ _ := rfl

/-- A word that sets `more_to_draw` is an object-list word of a peeling traversal. -/
theorem WordEffect.moreToDraw_set {f : Format} {s t : State} (h : WordEffect s f t) (hs : s.moreToDraw = false)
    (ht : t.moreToDraw = true) : f = .objectList ∧
      (s.mode = .punchthroughPass0 ∨ s.mode = .punchthroughPassN ∨ s.mode = .translucentAutosort) := by
  have same : t.moreToDraw ≠ s.moreToDraw := by rw [hs, ht]; exact Bool.noConfusion
  cases h with
  | opened | pointer | aborted | blended => exact absurd rfl same
  | quiet h => exact absurd h.moreToDraw same
  | folded h => rcases evalVolume_next h with rfl | rfl | rfl <;> exact absurd rfl same
  | packed h =>
    obtain ⟨u, c, hu, hp⟩ := supportedPack_stores h s
    rw [hp] at same
    exact absurd (by rw [hu.only]) same
  | walked h =>
    refine ⟨rfl, ?_⟩
    cases h with
    | linked | listEnd => exact absurd rfl same
    | drawn h =>
      by_contra hm
      simp only [not_or] at hm
      obtain ⟨h0, hN, hS⟩ := hm
      exact same (h _ (drawLaw_moreToDraw h0 hN hS))

/-- Settles O18: the driver's actions only clear `more_to_draw`, and only the walk reads object-list words. -/
theorem moreToDrawOnlyInPeels : Obligations.MoreToDrawOnlyInPeels := by
  intro s t ho h hs ht
  rcases step_eq_next.1 h with ⟨f, src, hp, hf⟩ | ⟨-, hd⟩
  · obtain ⟨u, hu, rfl⟩ := stepFetch_wordEffect hf
    have hfs := shadeFrame_fetchState src s
    rw [leaveOperand_eq] at ht
    obtain ⟨rfl, hm⟩ := hu.moreToDraw_set (hfs.moreToDraw.trans hs) ht
    rw [hfs.mode] at hm
    rcases fetchPoint_format ho hp with hk | hk | ⟨-, hw⟩ | ⟨hk, -⟩
    · cases hk
    · cases hk
    · exact ⟨hw, hm⟩
    · cases hk
  · by_cases hi : s.ctl = .idle
    · rw [driverStep_idle hi hd] at ht
      exact absurd (ht.symm.trans hs) Bool.noConfusion
    · exact absurd (((driverStep_frame hi hd).moreToDraw ht).symm.trans hs) Bool.noConfusion

end Sys2Proof.Machine
end

section
/-! PROOF. The invariant (R42, R45, R100, R121, R200): the driver's pointers and counters stay in range (`Placed`), VRAM
stays canonical, and from such a state no fetch is misaligned, so no step faults. -/

namespace Sys2Proof.Machine

/-! ### Nothing but a misaligned fetch faults -/

theorem Shades.not_fault {s : State} {o : Res} (h : Shades s o) (r : Fault) : o ≠ .fault r := by
  rcases h with ⟨t, rfl, -⟩ | rfl | rfl <;> exact nofun

theorem andThen_not_fault {o : Res} {f : State → Res} {r : Fault} (ho : o ≠ .fault r) (hf : ∀ s, f s ≠ .fault r) :
    andThen o f ≠ .fault r := by
  intro h
  rcases andThen_eq_fault.1 h with h | ⟨s, -, h⟩
  · exact ho h
  · exact hf s h

theorem shadeInline_not_fault (p : DrawParameters) (i : Fin 1024) (s : State) (r : Fault) :
    shadeInline p i s ≠ .fault r :=
  andThen_not_fault ((shades_shade p i s).not_fault r) fun _ => nofun

theorem pixelRule_not_fault (p : DrawParameters) (zf : Word) (i : Fin 1024) (s : State) (r : Fault) :
    pixelRule p zf i s ≠ .fault r := by
  unfold pixelRule
  cases s.mode with
  | translucentPresort =>
    dsimp only [pixelPresort]
    split
    · exact shadeInline_not_fault _ i _ r
    · exact nofun
  | _ => exact nofun

theorem visitPixel_not_fault (p : DrawParameters) (covers : Rat → Rat → Bool) (plane : Plane) (i : Fin 1024)
    (s : State) (r : Fault) : visitPixel p covers plane i s ≠ .fault r := by
  unfold visitPixel
  split
  · exact pixelRule_not_fault _ _ _ _ _
  · exact nofun

theorem rasterizePlane_not_fault (p : DrawParameters) (covers : Rat → Rat → Bool) (s : State) (r : Fault) :
    rasterizePlane p covers s ≠ .fault r := by
  unfold rasterizePlane
  dsimp only
  split
  · exact nofun
  · split
    · exact nofun
    · exact forEach_not_fault (visitPixel_not_fault _ _ _) _ _ _

theorem rasterizeTriangle_not_fault (hdr : Header) (v0 v1 v2 : Vertex) (tag : Word) (s : State) (r : Fault) :
    rasterizeTriangle hdr v0 v1 v2 tag s ≠ .fault r := by
  unfold rasterizeTriangle
  split
  · exact rasterizePlane_not_fault _ _ _ _
  · exact nofun

theorem rasterizeQuad_not_fault (hdr : Header) (v0 v1 v2 v3 : Vertex) (tag : Word) (s : State) (r : Fault) :
    rasterizeQuad hdr v0 v1 v2 v3 tag s ≠ .fault r := by
  unfold rasterizeQuad
  split
  · exact rasterizePlane_not_fault _ _ _ _
  · exact nofun

theorem evalVolume_not_fault (k : Nat) (s : State) (r : Fault) : evalVolume k s ≠ .fault r := by
  unfold evalVolume
  split <;> exact nofun

theorem foldAfterBlock_not_fault (isp : Word) (s : State) (r : Fault) : foldAfterBlock isp s ≠ .fault r := by
  unfold foldAfterBlock
  split
  · exact evalVolume_not_fault _ _ _
  · exact nofun

theorem stripTriangle_not_fault (b : Block) (offs skip : Nat) (shadow : Bool) (mask i : Nat) (s : State) (r : Fault) :
    stripTriangle b offs skip shadow mask i s ≠ .fault r := by
  unfold stripTriangle
  split
  · exact rasterizeTriangle_not_fault _ _ _ _ _ _ _
  · exact nofun

theorem renderStrip_not_fault (offs skip : Nat) (shadow : Bool) (mask : Nat) (s : State) (r : Fault) :
    renderStrip offs skip shadow mask s ≠ .fault r :=
  andThen_not_fault (forEach_not_fault (stripTriangle_not_fault _ _ _ _ _) _ _ _) fun _ =>
    foldAfterBlock_not_fault _ _ _

theorem arrayPrimitive_not_fault (n o skip : Nat) (shadow : Bool) (s : State) (r : Fault) :
    arrayPrimitive n o skip shadow s ≠ .fault r := by
  refine andThen_not_fault ?_ fun _ => foldAfterBlock_not_fault _ _ _
  split
  · exact rasterizeTriangle_not_fault _ _ _ _ _ _ _
  · exact rasterizeQuad_not_fault _ _ _ _ _ _ _ _

theorem renderArray_not_fault (n skip : Nat) (shadow : Bool) (count o : Nat) (s : State) (r : Fault) :
    renderArray n skip shadow count o s ≠ .fault r := by
  induction count generalizing o s with
  | zero => exact nofun
  | succ count ih => exact andThen_not_fault (arrayPrimitive_not_fault _ _ _ _ _ _) fun t => ih _ t

theorem traversing_not_fault {f : State → Res} {s : State} {r : Fault} (h : f s ≠ .fault r) :
    traversing f s ≠ .fault r := by
  unfold traversing
  split
  · exact nofun
  · exact h

/-- No instruction faults (R600). -/
theorem exec_not_fault (i : Instr) (s : State) (r : Fault) : exec i s ≠ .fault r := by
  cases i with
  | strip =>
    rw [exec, execStrip]
    exact traversing_not_fault (andThen_not_fault (renderStrip_not_fault _ _ _ _ s r) fun _ => nofun)
  | tarray =>
    rw [exec, execTarray]
    exact traversing_not_fault (andThen_not_fault (renderArray_not_fault _ _ _ _ _ s r) fun _ => nofun)
  | qarray =>
    rw [exec, execQarray]
    exact traversing_not_fault (andThen_not_fault (renderArray_not_fault _ _ _ _ _ s r) fun _ => nofun)
  | reserved110 => rw [exec, execReserved110]; exact traversing_not_fault nofun
  | link => rw [exec, execLink]; exact traversing_not_fault nofun
  | linkEnd => rw [exec, execLinkEnd]; exact traversing_not_fault nofun
  | _ => intro h; cases h

theorem renderTag_not_fault (m : RenderMode) (i : Fin 1024) (s : State) (r : Fault) : renderTag m i s ≠ .fault r := by
  unfold renderTag
  dsimp only
  split
  · exact nofun
  · refine andThen_not_fault ((shades_shade _ _ _).not_fault r) fun t => ?_
    split <;> exact nofun

theorem renderTagsThen_not_fault (m : RenderMode) (k : Ctl) (s : State) (r : Fault) :
    renderTagsThen m k s ≠ .fault r :=
  andThen_not_fault (forEach_not_fault (renderTag_not_fault m) _ _ _) fun _ => nofun

theorem driverStep_not_fault (s : State) (r : Fault) : driverStep s ≠ .fault r := by
  cases hc : s.ctl with simp only [driverStep, hc, ne_eq, reduceCtorEq, not_false_eq_true]
  | opaqueTags | ptMvTags | sortTags => exact renderTagsThen_not_fault _ _ _ r
  | ptTags => exact renderTagsThen_not_fault _ _ _ r

/-! ### The driver's pointers and counters -/

/-- The part of the invariant the driver moves: pointers whole numbers of words, tile coordinates and counter in
range. -/
structure Placed (s : State) : Prop where
  regionPtr : s.regionPtr % 4 = 0
  listPtr : s.listPtr % 4 = 0
  entry : s.entry.safe
  tilex : s.tilex < 64
  tiley : s.tiley < 64
  entryCount : s.entryCount < 1024
  ctl : s.ctl.safe
  resume : s.resume.safe

theorem Inv.placed {s : State} (h : Inv s) : Placed s :=
  ⟨h.regionPtr, h.listPtr, h.entry, h.tilex, h.tiley, h.entryCount, h.ctl, h.resume⟩

theorem Placed.inv {s : State} (h : Placed s) (hv : Memory.wf s.vram = true) (hr : regsWf s.regs = true)
    (hp : ∀ i, (pixel s i).safe) : Inv s :=
  ⟨hv, hr, hp, h.regionPtr, h.listPtr, h.entry, h.tilex, h.tiley, h.entryCount, h.ctl, h.resume⟩

theorem Placed.of_drawFrame {s t : State} (h : Placed s) (k : DrawFrame s t) : Placed t where
  regionPtr := k.regionPtr ▸ h.regionPtr
  listPtr := k.listPtr ▸ h.listPtr
  entry := k.entry ▸ h.entry
  tilex := k.tilex ▸ h.tilex
  tiley := k.tiley ▸ h.tiley
  entryCount := k.entryCount ▸ h.entryCount
  ctl := k.ctl ▸ h.ctl
  resume := k.resume ▸ h.resume

theorem Placed.withCtl {s : State} (h : Placed s) {c : Ctl} (hc : c.safe) : Placed { s with ctl := c } :=
  { h with ctl := hc }

theorem placed_traverse {s : State} (h : Placed s) {p : ListPointer} (hp : p.safe) (m : RenderMode) {k : Ctl}
    (hk : k.safe) : Placed (traverse p m k s) := by
  rw [traverse_frame]
  exact { h with listPtr := hp, resume := hk, ctl := trivial }

theorem placed_traverseUnlessEmpty {s : State} (h : Placed s) {p : ListPointer} (hp : p.safe) (m : RenderMode)
    {k : Ctl} (hk : k.safe) : Placed (traverseUnlessEmpty p m k s) := by
  unfold traverseUnlessEmpty
  split
  · exact h.withCtl hk
  · exact placed_traverse h hp m hk

theorem placed_mapTile {s : State} (h : Placed s) (f : Pixel → Pixel) : Placed (mapTile f s) :=
  h.of_drawFrame (drawFrame_mapTile f s)

theorem placed_checkScaler {s : State} (h : Placed s) : Placed (checkScaler s) := by
  unfold checkScaler
  dsimp only
  split_ifs
  · exact { h with ctl := trivial }
  · exact { h with ctl := trivial }
  · exact { h with ctl := trivial }
  · exact { h with regionPtr := Nat.mul_mod_left _ 4, entryCount := Nat.zero_lt_succ 1023, ctl := trivial }

theorem placed_tileSetup {s : State} (h : Placed s) : Placed (tileSetup s) := by
  unfold tileSetup
  dsimp only
  split
  · exact { h with tilex := h.entry.tilex, tiley := h.entry.tiley }
  · exact { h with tilex := h.entry.tilex, tiley := h.entry.tiley }

theorem placed_opaqueStart {s : State} (h : Placed s) : Placed (opaqueStart s) := by
  unfold opaqueStart
  split
  · exact h.withCtl trivial
  · exact placed_traverse h h.entry.opaqueList _ trivial

theorem placed_ptStart {s : State} (h : Placed s) : Placed (ptStart s) := by
  unfold ptStart
  split
  · exact h.withCtl trivial
  · exact { h with ctl := trivial }

theorem placed_ptIterate {s : State} (h : Placed s) : Placed (ptIterate s) := by
  have hm : Placed { s with moreToDraw := false } := { h with }
  exact placed_traverse (placed_mapTile hm _) h.entry.ptList _ trivial

theorem placed_ptTest {s : State} (h : Placed s) : Placed (ptTest s) := by
  unfold ptTest
  split
  · exact { h with ctl := trivial }
  · exact h.withCtl trivial

theorem placed_ptModStart {s : State} (h : Placed s) : Placed (ptModStart s) := by
  unfold ptModStart
  split
  · exact h.withCtl trivial
  · exact placed_traverse h h.entry.opaqueModList _ trivial

theorem placed_transStart {s : State} (h : Placed s) : Placed (transStart s) := by
  unfold transStart
  split_ifs
  · exact h.withCtl trivial
  · exact placed_traverse h h.entry.transList _ trivial
  · exact { h with ctl := trivial }

theorem placed_sortIterate {s : State} (h : Placed s) : Placed (sortIterate s) := by
  have hm : Placed { s with moreToDraw := false, andPhase := false } := { h with }
  exact placed_traverse (placed_mapTile hm _) h.entry.transList _ trivial

theorem placed_sortTest {s : State} (h : Placed s) : Placed (sortTest s) := by
  refine h.withCtl ?_
  split <;> exact trivial

theorem placed_endEntry {s : State} (h : Placed s) : Placed (endEntry s) := by
  have hr : (s.regionPtr + 4 * entryWords s) % 4 = 0 := by
    rw [Nat.add_mul_mod_self_left]
    exact h.regionPtr
  unfold endEntry
  dsimp only
  split_ifs with hl hn
  · exact { h with ctl := trivial }
  · exact { h with regionPtr := hr, entryCount := hn, ctl := trivial }
  · exact { h with regionPtr := hr, ctl := trivial }

theorem placed_renderTagsThen {m : RenderMode} {k : Ctl} {s t : State} (hs : Placed s)
    (h : renderTagsThen m k s = .next t) (hk : k.safe) : Placed t := by
  obtain ⟨u, hu, h⟩ := andThen_eq_next.1 h
  cases h
  exact (hs.of_drawFrame ((tagLaw_frame m).renderParamTags hu)).withCtl hk

theorem placed_driverStep {s t : State} (hs : Placed s) (h : driverStep s = .next t) : Placed t := by
  cases hc : s.ctl with simp only [driverStep, hc, Host.Outcome.next.injEq] at h
  | idle => exact h ▸ { hs with tilex := Nat.zero_lt_succ 63, tiley := Nat.zero_lt_succ 63, ctl := trivial }
  | opaqueTags | ptMvTags | sortTags => exact placed_renderTagsThen hs h trivial
  | ptTags => exact placed_renderTagsThen (s := { s with ptIteration := s.ptIteration + 1 }) { hs with } h trivial
  | checkScaler => exact h ▸ placed_checkScaler hs
  | setup => exact h ▸ (placed_tileSetup hs).withCtl trivial
  | opaqueStart => exact h ▸ placed_opaqueStart hs
  | opaqueModStart => exact h ▸ placed_traverseUnlessEmpty hs hs.entry.opaqueModList _ trivial
  | sortModStart => exact h ▸ placed_traverseUnlessEmpty hs hs.entry.transModList _ trivial
  | ptStart => exact h ▸ placed_ptStart hs
  | ptIterate => exact h ▸ placed_ptIterate hs
  | ptTest => exact h ▸ placed_ptTest hs
  | ptModStart => exact h ▸ placed_ptModStart hs
  | transStart => exact h ▸ placed_transStart hs
  | sortIterate => exact h ▸ placed_sortIterate hs
  | sortTest => exact h ▸ placed_sortTest hs
  | writeback => exact h ▸ hs.withCtl trivial
  | entryEnd => exact h ▸ placed_endEntry hs
  | checkPack | region | pointer | walk | operand => exact h ▸ hs

/-! ### Words -/

/-- A control word's coordinates have six bits, and the lists it leaves are the entry's (R121, R123). -/
theorem safe_openedEntry {s : State} (h : s.entry.safe) (w : Word) : (openedEntry s w).safe :=
  { h with tilex := BitVec.isLt _, tiley := BitVec.isLt _, ptList := rfl }

/-- The address of a list pointer has its low two bits 0 (R122). -/
theorem safe_pointerOfWord (w : Word) : (pointerOfWord w).safe := by
  have haddr : bits w 23 2 * 4 = (w &&& 0x00FFFFFC).toNat := bits_mul_eq_and w (hi := 23) (by decide) (by decide)
  rw [pointerOfWord, ListPointer.safe, ← haddr]
  exact Nat.mul_mod_left _ 4

theorem safe_setPointer {e : RegionEntry} (h : e.safe) (k : Nat) {p : ListPointer} (hp : p.safe) :
    (setPointer e k p).safe := by
  unfold setPointer
  split
  · exact { h with opaqueList := hp }
  · exact { h with opaqueModList := hp }
  · exact { h with transList := hp }
  · exact { h with transModList := hp }
  · exact { h with ptList := hp }

theorem placed_takePointer {s : State} (h : Placed s) {p : ListPointer} (hp : p.safe) : Placed (takePointer p s) := by
  refine { h with entry := safe_setPointer h.entry _ hp, ctl := ?_ }
  unfold takePointer
  dsimp only
  split <;> exact trivial

theorem WalkEffect.placed {s t : State} (hs : Placed s) (h : WalkEffect s t) : Placed t := by
  cases h with
  | drawn h =>
    have hu := hs.of_drawFrame h.drawFrame
    exact { hu with listPtr := by rw [nextEntry, Nat.add_mod_right]; exact hu.listPtr }
  | linked n => exact { hs with listPtr := Nat.mul_mod_left n 4 }
  | listEnd => exact hs.withCtl hs.resume

theorem drawFrame_evalVolume {k : Nat} {s t : State} (h : evalVolume k s = .next t) : DrawFrame s t := by
  rcases evalVolume_next h with rfl | rfl | rfl
  · exact DrawFrame.refl _
  · exact drawFrame_mapTile _ s
  · exact (drawFrame_mapTile _ s).trans (drawFrame_andPhase true _)

theorem placed_supportedPack {s : State} (hs : Placed s) {write : State → State} (h : ∀ u, Stores u (write u)) :
    Placed (supportedPack write s) := by
  have hw : Placed (write s) := by
    rw [(h s).only]
    exact { hs with }
  unfold supportedPack
  split
  · exact hs.withCtl trivial
  · exact hw.withCtl trivial
  · exact hw

theorem WordEffect.placed {f : Format} {s t : State} (hs : Placed s) (h : WordEffect s f t) : Placed t := by
  cases h with
  | opened w => exact { hs with entry := safe_openedEntry hs.entry w, ctl := trivial }
  | pointer w => exact placed_takePointer hs (safe_pointerOfWord w)
  | walked h => exact h.placed hs
  | quiet h => exact hs.of_drawFrame h.toDrawFrame
  | folded h => exact hs.of_drawFrame (drawFrame_evalVolume h)
  | blended k => exact hs.of_drawFrame (drawFrame_evalDst k s)
  | aborted => exact { hs with ctl := trivial }
  | packed h => exact placed_supportedPack hs h

theorem WordEffect.wf_vram {f : Format} {s t : State} (hs : Memory.wf s.vram = true) (h : WordEffect s f t) :
    Memory.wf t.vram = true := by
  by_cases hp : f = .fbPackmode → s.ctl = .checkPack
  · rw [h.vram_eq hp]
    exact hs
  · cases h with
    | packed h =>
      obtain ⟨u, c, hu, ht⟩ := supportedPack_stores h s
      rw [ht]
      exact hu.wf hs
    | quiet h => exact h.vram ▸ hs
    | aborted => exact hs
    | _ => exact absurd (fun k => Format.noConfusion k) hp

theorem placed_leaveOperand {s : State} (h : Placed s) : Placed (leaveOperand s) := by
  unfold leaveOperand
  split
  · exact h.withCtl trivial
  · exact h

/-! ### The invariant -/

/-- A number whose bits from `n` on are 0. -/
theorem toNat_lt_of_bits {b : Byte} {n : Nat} (h : ∀ k, n ≤ k → b.getLsbD k = false) : b.toNat < 2 ^ n :=
  Nat.lt_pow_two_of_testBit _ h

theorem PixelKept.safe {p q : Pixel} (h : PixelKept p q) (hp : p.safe) : q.safe := by
  have hs : p.stencil.toNat < 2 ^ 3 := hp.1
  have ht : p.status.toNat < 2 ^ 2 := hp.2
  refine ⟨toNat_lt_of_bits (n := 3) fun k hk => ?_, toNat_lt_of_bits (n := 2) fun k hk => ?_⟩
  · refine Bool.eq_false_iff.2 fun hb => absurd (h.stencil k (by omega) hb) (Bool.eq_false_iff.1 ?_)
    exact Nat.testBit_lt_two_pow (hs.trans_le (Nat.pow_le_pow_right (by decide) hk))
  · refine Bool.eq_false_iff.2 fun hb => absurd (h.status k hk hb) (Bool.eq_false_iff.1 ?_)
    exact Nat.testBit_lt_two_pow (ht.trans_le (Nat.pow_le_pow_right (by decide) hk))

/-- From a state of the invariant every fetch is aligned (R100). -/
theorem fetchAligned_of_placed {s : State} (hs : Placed s) {f : Format} {src : FetchSource}
    (h : fetchPoint s = some (f, src)) : fetchAligned src = true := by
  have hreg := hs.regionPtr
  have hlist := hs.listPtr
  have hctl := hs.ctl
  cases hc : s.ctl with
    (rw [hc] at hctl; simp only [fetchPoint, hc, reduceCtorEq, Option.some.injEq, Prod.mk.injEq] at h)
  | checkPack => obtain ⟨-, rfl⟩ := h; rfl
  | region => obtain ⟨-, rfl⟩ := h; exact beq_iff_eq.2 hreg
  | pointer => obtain ⟨-, rfl⟩ := h; exact beq_iff_eq.2 (by omega)
  | walk => obtain ⟨-, rfl⟩ := h; exact beq_iff_eq.2 hlist
  | writeback =>
    split at h
    · cases h
    · cases h; rfl
  | operand g a =>
    split at h
    · cases h; rfl
    · cases h; exact beq_iff_eq.2 hctl

theorem step_not_fault {s : State} (hs : Placed s) (r : Fault) : step s ≠ .fault r := by
  intro h
  unfold step at h
  split at h
  next f src hp =>
    rw [stepFetch, if_pos (fetchAligned_of_placed hs hp)] at h
    split at h
    · exact andThen_not_fault (f := fun t => .next (leaveOperand t)) (exec_not_fault _ _ r) (fun _ => nofun) h
    · cases h
  next => exact driverStep_not_fault s r h

theorem step_placed {s t : State} (hs : Placed s) (h : step s = .next t) : Placed t := by
  rcases step_eq_next.1 h with ⟨f, src, -, hf⟩ | ⟨-, hd⟩
  · obtain ⟨u, hu, rfl⟩ := stepFetch_wordEffect hf
    exact placed_leaveOperand (hu.placed (hs.of_drawFrame (shadeFrame_fetchState src s).toDrawFrame))
  · exact placed_driverStep hs hd

theorem step_wf_vram {s t : State} (hs : Memory.wf s.vram = true) (h : step s = .next t) :
    Memory.wf t.vram = true := by
  rcases step_eq_next.1 h with ⟨f, src, -, hf⟩ | ⟨-, hd⟩
  · obtain ⟨u, hu, rfl⟩ := stepFetch_wordEffect hf
    rw [leaveOperand_vram]
    exact hu.wf_vram ((shadeFrame_fetchState src s).vram ▸ hs)
  · by_cases hi : s.ctl = .idle
    · rw [driverStep_idle hi hd]
      exact hs
    · exact (driverStep_frame hi hd).vram ▸ hs

/-- Settles O15: the driver's part is `step_placed`, the pixels' `step_tileKept`, the registers' O11. -/
theorem invariantIsKept : Obligations.InvariantIsKept := by
  intro s hs
  refine ⟨step_not_fault hs.placed, fun t h => (step_placed hs.placed h).inv (step_wf_vram hs.vram h) ?_ ?_⟩
  · rw [registersAreNeverWritten s t h]
    exact hs.regs
  · exact fun i => (step_tileKept h i).safe (hs.pixels i)

/-- Settles O14: the reset state field by field; every pointer and counter of it is 0. -/
theorem resetState : Obligations.ResetState := by
  have hentry : RegionEntry.zero.safe := ⟨by decide, by decide, rfl, rfl, rfl, rfl, rfl⟩
  refine ⟨rfl, rfl, rfl, rfl, fun _ => rfl, fun _ => rfl, pixel_reset, ?_⟩
  refine ⟨Memory.wf_reset, regsWf_reset, fun i => ?_, rfl, rfl, hentry, ?_, ?_, ?_, trivial, trivial⟩
  · rw [pixel_reset]
    exact ⟨by decide, by decide⟩
  · exact Nat.zero_lt_succ _
  · exact Nat.zero_lt_succ _
  · exact Nat.zero_lt_succ _

end Sys2Proof.Machine
end

section
/-! PROOF. Traversals of one mode: R324 (PUNCHTHROUGH_PASSN writes nothing), R232 (the auto-sort peel stays above its
reference), R327 (presort writes colour only). Each is a relation drawing keeps in that mode. -/

namespace Sys2Proof.Machine

/-! ### IEEE comparisons -/

theorem f32Lt_iff {a b : Word} : f32Lt a b = true ↔ f32NaN a = false ∧ f32NaN b = false ∧ f32Key a < f32Key b := by
  simp [f32Lt, and_assoc]

theorem f32Eq_iff {a b : Word} : f32Eq a b = true ↔ f32NaN a = false ∧ f32NaN b = false ∧ f32Key a = f32Key b := by
  simp [f32Eq, and_assoc]

theorem f32Lt_asymm {a b : Word} (h : f32Lt a b = true) : f32Lt b a ≠ true := by
  intro k
  rw [f32Lt_iff] at h k
  omega

theorem f32Eq_comm (a b : Word) : f32Eq a b = f32Eq b a := by
  rw [Bool.eq_iff_iff, f32Eq_iff, f32Eq_iff]
  constructor <;> (rintro ⟨ha, hb, hk⟩; exact ⟨hb, ha, hk.symm⟩)

/-! ### One law for a whole entry -/

/-- A relation drawing keeps in the mode of `s`, and that moving the walk is in, holds of a whole list entry. -/
theorem DrawLaw.exec {m : RenderMode} {R : State → State → Prop} (L : DrawLaw m R)
    (hl : ∀ s a c, R s { s with listPtr := a, ctl := c }) {i : Instr} {s t : State} (hf : i.format = .objectList)
    (hm : s.mode = m) (h : exec i s = .next t) : R s t := by
  subst hm
  cases exec_walkEffect hf h with
  | drawn hu => exact L.trans _ _ _ (hu R L) (hl _ _ _)
  | linked n => exact hl s (n * 4) s.ctl
  | listEnd => exact hl s s.listPtr s.resume

/-! ### PUNCHTHROUGH_PASSN -/

/-- `depth_ref` is `depth_test_prev` at every pixel, as the loop leaves them. -/
def RefIsPrev (s : State) : Prop := ∀ j, (pixel s j).depthRef = (pixel s j).depthPrev

theorem RefIsPrev.of_tile {s t : State} (h : t.tile = s.tile) (hs : RefIsPrev s) : RefIsPrev t :=
  fun j => by rw [pixel_congr h]; exact hs j

/-- A fragment would have to lie below `depth_ref` and above `depth_test_prev`, which are the same depth. -/
theorem drawLaw_passN : DrawLaw .punchthroughPassN
    (fun s t => RefIsPrev s → t.tile = s.tile ∧ t.moreToDraw = s.moreToDraw) where
  refl _ _ := ⟨rfl, rfl⟩
  trans _ _ _ h k hs := by
    obtain ⟨ht, hm⟩ := h hs
    obtain ⟨hu, hn⟩ := k (hs.of_tile ht)
    exact ⟨hu.trans ht, hn.trans hm⟩
  quiet _ _ h _ := ⟨h.tile, h.moreToDraw⟩
  cache _ _ _ _ _ _ := ⟨rfl, rfl⟩
  passN _ _ _ zf i s hr hp hs := by
    rw [← hs i] at hp
    exact absurd hp (f32Lt_asymm hr)
  write h := RenderMode.noConfusion h
  pass0 h := RenderMode.noConfusion h
  sort h := RenderMode.noConfusion h
  blend h := RenderMode.noConfusion h
  volume h := RenderMode.noConfusion h
  foldOr h := RenderMode.noConfusion h
  foldAnd h := RenderMode.noConfusion h

/-- Settles O38: `drawLaw_passN` over the whole entry. -/
theorem passNNeverWrites : Obligations.PassNNeverWrites := fun _ _ _ hf hm hs h =>
  drawLaw_passN.exec (fun _ _ _ _ => ⟨rfl, rfl⟩) hf hm h hs

/-! ### Auto-sort -/

/-- `depth_test` is at or above `depth_ref`. -/
def Pixel.aboveRef (p : Pixel) : Prop := (f32Lt p.depthRef p.depthTest || f32Eq p.depthRef p.depthTest) = true

/-- A fragment the after-test lets through is at or above the reference (R326). -/
theorem aboveRef_of_peelAfter {zf tag : Word} {p : Pixel} (h : peelAfter zf tag p = true) :
    (f32Lt p.depthRef zf || f32Eq p.depthRef zf) = true := by
  simp only [peelAfter, Bool.or_eq_true, Bool.and_eq_true] at h ⊢
  exact h.imp id fun h => f32Eq_comm zf p.depthRef ▸ h.1

/-- `depth_ref` is kept, and `depth_test` stays at or above it. -/
def PeelsAbove (s t : State) : Prop :=
  (∀ j, (pixel s j).aboveRef) → ∀ j, (pixel t j).depthRef = (pixel s j).depthRef ∧ (pixel t j).aboveRef

theorem peelsAbove_of_tile {s t : State} (h : t.tile = s.tile) : PeelsAbove s t :=
  fun hs j => by rw [pixel_congr h]; exact ⟨rfl, hs j⟩

theorem PeelsAbove.trans {s t u : State} (h : PeelsAbove s t) (k : PeelsAbove t u) : PeelsAbove s u := fun hs j =>
  have ht := fun j => (h hs j).2
  ⟨(k ht j).1.trans (h hs j).1, (k ht j).2⟩

theorem peelsAbove_updatePixel {i : Fin 1024} {f : Pixel → Pixel} {s : State}
    (hr : (f (pixel s i)).depthRef = (pixel s i).depthRef) (ha : (f (pixel s i)).aboveRef) :
    PeelsAbove s (updatePixel i f s) := by
  intro hs j
  by_cases hj : j = i
  · subst hj
    rw [pixel_updatePixel_self]
    exact ⟨hr, ha⟩
  · rw [pixel_updatePixel_other i j _ s hj]
    exact ⟨rfl, hs j⟩

theorem drawLaw_autosort : DrawLaw .translucentAutosort PeelsAbove where
  refl _ := peelsAbove_of_tile rfl
  trans _ _ _ := .trans
  quiet _ _ h := peelsAbove_of_tile h.tile
  cache _ _ _ _ _ := peelsAbove_of_tile rfl
  sort _ tag zf i _ ha _ :=
    (peelsAbove_updatePixel (i := i) (f := fun p => clearWritten { p with depthTest := zf, tag := tag }) rfl
      (aboveRef_of_peelAfter ha)).trans (peelsAbove_of_tile rfl)
  write h := RenderMode.noConfusion h
  pass0 h := RenderMode.noConfusion h
  passN h := RenderMode.noConfusion h
  blend h := RenderMode.noConfusion h
  volume h := RenderMode.noConfusion h
  foldOr h := RenderMode.noConfusion h
  foldAnd h := RenderMode.noConfusion h

/-- Settles O40: `drawLaw_autosort` over the whole entry. -/
theorem peelStaysAboveReference : Obligations.PeelStaysAboveReference := fun _ _ _ hf hm hs h =>
  drawLaw_autosort.exec (fun _ _ _ => peelsAbove_of_tile rfl) hf hm h hs

/-! ### Presort -/

/-- Every pixel keeps all but its colour; `more_to_draw` and `and_phase` stay. -/
def ColourOnly (s t : State) : Prop :=
  (∀ j, pixel t j = { pixel s j with accum := (pixel t j).accum }) ∧ t.moreToDraw = s.moreToDraw ∧
    t.andPhase = s.andPhase

theorem colourOnly_of_tile {s t : State} (ht : t.tile = s.tile) (hm : t.moreToDraw = s.moreToDraw)
    (ha : t.andPhase = s.andPhase) : ColourOnly s t :=
  ⟨fun j => by rw [pixel_congr ht], hm, ha⟩

theorem drawLaw_presort : DrawLaw .translucentPresort ColourOnly where
  refl _ := colourOnly_of_tile rfl rfl rfl
  trans _ _ _ h k := by
    obtain ⟨hp, hm, ha⟩ := h
    obtain ⟨kp, km, ka⟩ := k
    exact ⟨fun j => by rw [kp j, hp j], km.trans hm, ka.trans ha⟩
  quiet _ _ h := colourOnly_of_tile h.tile h.moreToDraw h.andPhase
  cache _ _ _ _ _ := colourOnly_of_tile rfl rfl rfl
  blend _ i c s := by
    refine ⟨fun j => ?_, rfl, rfl⟩
    by_cases hj : j = i
    · subst hj
      rw [pixel_updatePixel_self]
    · rw [pixel_updatePixel_other i j _ s hj]
  write h := RenderMode.noConfusion h
  pass0 h := RenderMode.noConfusion h
  passN h := RenderMode.noConfusion h
  sort h := RenderMode.noConfusion h
  volume h := RenderMode.noConfusion h
  foldOr h := RenderMode.noConfusion h
  foldAnd h := RenderMode.noConfusion h

/-- Settles O41: `drawLaw_presort` over the whole entry. -/
theorem presortWritesColourOnly : Obligations.PresortWritesColourOnly := fun _ _ _ hf hm h =>
  drawLaw_presort.exec (fun _ _ _ => colourOnly_of_tile rfl rfl rfl) hf hm h

end Sys2Proof.Machine
end

section
/-! PROOF. The driver's actions one by one: the configuration check (R601), the words of a region entry (R121, R122),
tile setup (R210), the order of the passes (R212 to R231), the auto-sort loop (R227 to R230). -/

namespace Sys2Proof.Machine

/-! ### Fetching and pack codes -/

/-- What a step at a fetch point runs. -/
theorem step_of_fetchPoint {s : State} {f : Format} {src : FetchSource} {i : Instr}
    (hp : fetchPoint s = some (f, src)) (ha : fetchAligned src = true) (hd : decode f (fetchWord src s) = .ok i) :
    step s = andThen (exec i (fetchState src s)) fun t => .next (leaveOperand t) := by
  simp only [step, hp, stepFetch, ha, if_true, hd]

/-- Settles O13: a step at a fetch point, and the fetch point at each position. -/
theorem stepRunsDecodedInstruction : Obligations.StepRunsDecodedInstruction := by
  refine ⟨fun s f src i hp ha hd => ?_, fun s => ⟨?_, ?_, ?_, ?_, ?_⟩⟩
  · rw [step_of_fetchPoint hp ha hd]
    rfl
  · intro h
    simp only [fetchPoint, h]
  · intro h
    simp only [fetchPoint, h]
  · intro h
    simp only [fetchPoint, h]
  · intro h
    simp only [fetchPoint, h]
  · intro h hw
    simp [fetchPoint, h, hw]

theorem supportedPack_checkPack {s : State} (h : s.ctl = .checkPack) (write : State → State) :
    supportedPack write s = { s with ctl := .checkScaler } := by
  simp only [supportedPack, h]

/-- Settles O58: an unsupported code is an abort, a supported one moves the driver on. -/
theorem packCodesInFrame : Obligations.PackCodesInFrame := by
  intro s
  refine ⟨rfl, rfl, rfl, rfl, rfl, rfl, fun h => ⟨?_, ?_⟩⟩
  · exact congrArg _ (supportedPack_checkPack h writeback565)
  · exact congrArg _ (supportedPack_checkPack h writeback8888)

/-- Settles O21: each word's effect as `exec` gives it, the length of the entry read as the register's bit. -/
theorem regionWordsComplete : Obligations.RegionWordsComplete := by
  intro s
  refine ⟨fun tx ty nw ps zk lr => ?_, fun p => ?_, fun p => ?_⟩
  · simp only [exec, execRegion, entryWords_eq_six_iff, bit_eq_getLsbD, ListPointer.none]
  · simp only [exec, execPtr, takePointer, entryWords_eq, Nat.mul_comm p 4]
  · simp only [exec, execPtrEmpty, takePointer, entryWords_eq, Nat.mul_comm p 4]

/-! ### The configuration check -/

theorem step_idle_eq {s : State} (h : s.ctl = .idle) : step s = .next (beginFrame s) := by
  rw [step_eq_driverStep (by simp only [fetchPoint, h])]
  simp only [driverStep, h]

theorem step_checkScaler {s : State} (h : s.ctl = .checkScaler) : step s = .next (checkScaler s) := by
  rw [step_eq_driverStep (by simp only [fetchPoint, h])]
  simp only [driverStep, h]

/-- At the configuration check a step runs the pack code of `FB_W_CTRL` (R601). -/
theorem step_checkPack {s : State} (h : s.ctl = .checkPack) :
    step s = exec (decodePack (reg s .fbWCtrl)) s := by
  have hp : fetchPoint s = some (.fbPackmode, .register .fbWCtrl) := by simp only [fetchPoint, h]
  rw [step_of_fetchPoint hp rfl rfl, fetchWord, fetchState, exec_decodePack, andThen_next, supportedPack_checkPack h,
    supportedPack_checkPack h]
  split_ifs <;> rfl

/-- The pack code as the low three bits of the register (R37). -/
theorem packCode_iff (s : State) (k : BitVec 3) :
    bits (reg s .fbWCtrl) 2 0 = k.toNat ↔ (reg s .fbWCtrl).extractLsb' 0 3 = k := by
  rw [bits_eq_extract]
  exact BitVec.toNat_inj

theorem step_checkPack_supported {s : State} (h : s.ctl = .checkPack)
    (hk : (reg s .fbWCtrl).extractLsb' 0 3 = 1 ∨ (reg s .fbWCtrl).extractLsb' 0 3 = 6) :
    step s = .next { s with ctl := .checkScaler } := by
  rw [step_checkPack h, exec_decodePack, supportedPack_checkPack h, supportedPack_checkPack h]
  rcases hk with hk | hk
  · have hcode : bits (reg s .fbWCtrl) 2 0 = 1 := (packCode_iff s 1).2 hk
    rw [if_pos hcode]
  · have hcode : bits (reg s .fbWCtrl) 2 0 = 6 := (packCode_iff s 6).2 hk
    rw [if_pos hcode, ite_self]

theorem step_checkPack_unsupported {s : State} (h : s.ctl = .checkPack)
    (h1 : (reg s .fbWCtrl).extractLsb' 0 3 ≠ 1) (h6 : (reg s .fbWCtrl).extractLsb' 0 3 ≠ 6) :
    step s = .next (abortFrame .fbPackmode s) := by
  have hcode1 : bits (reg s .fbWCtrl) 2 0 ≠ 1 := fun hk => h1 ((packCode_iff s 1).1 hk)
  have hcode6 : bits (reg s .fbWCtrl) 2 0 ≠ 6 := fun hk => h6 ((packCode_iff s 6).1 hk)
  rw [step_checkPack h, exec_decodePack, if_neg hcode1, if_neg hcode6]

/-- The checks of `SCALER_CTL` read as slices and bits of the register (R601, R38). -/
theorem checkScaler_eq (s : State) : checkScaler s =
    (if (reg s .scalerCtl).extractLsb' 0 16 ≠ 0x400 ∧ (reg s .scalerCtl).extractLsb' 0 16 ≠ 0x401 ∧
        (reg s .scalerCtl).extractLsb' 0 16 ≠ 0x800 then abortFrame .vscalefactor s
      else if (reg s .scalerCtl).getLsbD 16 then abortFrame .hscale s
      else if (reg s .scalerCtl).getLsbD 17 then abortFrame .interlace s
      else { s with regionPtr := (reg s .regionBase &&& 0x00FFFFFC).toNat, entryCount := 0, ctl := .region }) := by
  have hbase : regionBase s = (reg s .regionBase &&& 0x00FFFFFC).toNat := bits_mul_eq_and _ (by decide) (by decide)
  have hscale : ∀ k : BitVec 16, bits (reg s .scalerCtl) 15 0 = k.toNat ↔ (reg s .scalerCtl).extractLsb' 0 16 = k :=
    fun k => by
      rw [bits_eq_extract]
      exact BitVec.toNat_inj
  rw [checkScaler, hbase]
  simp only [bit_eq_getLsbD, ne_eq, ← hscale]
  rfl

/-- Settles O22: two steps to the pack code, and a third for the checks of `SCALER_CTL`. -/
theorem configurationCheck : Obligations.ConfigurationCheck := by
  intro s hidle f aborted pack vscale
  have hfirst : ∀ n, runSteps (n + 2) s = andThen (step (beginFrame s)) (runSteps n) := fun n => by
    rw [runSteps, step_idle_eq hidle, andThen_next, runSteps]
  refine ⟨fun h1 h6 => ?_, fun hpack => ?_⟩
  · rw [hfirst, step_checkPack_unsupported (s := beginFrame s) rfl h1 h6]
    rfl
  · rw [hfirst, step_checkPack_supported (s := beginFrame s) rfl hpack, andThen_next, runSteps,
      step_checkScaler rfl, andThen_next, checkScaler_eq]
    rfl

/-! ### Tile setup -/

theorem step_setup {s : State} (h : s.ctl = .setup) : step s = .next { tileSetup s with ctl := .opaqueStart } := by
  rw [step_eq_driverStep (by simp only [fetchPoint, h])]
  simp only [driverStep, h]

/-- The background tag as the register under a mask (R38). -/
theorem bgTag_eq (s : State) : bgTag s = reg s .ispBackgndT &&& 0x1FFFFFFF := by
  have h := and_mask_eq (reg s .ispBackgndT) 28 0 (mask := 0x1FFFFFFF) (by decide) (by decide) rfl
  rw [h, pow_zero, Nat.one_mul, bgTag]

/-- The border colour is opaque, its channels the register's bytes (R210). -/
theorem borderColor_eq (s : State) : borderColor s =
    ⟨(reg s .voBorderCol).extractLsb' 16 8, (reg s .voBorderCol).extractLsb' 8 8,
      (reg s .voBorderCol).extractLsb' 0 8, 255⟩ := by
  simp only [borderColor, bits_eq_extract, BitVec.ofNat_toNat, BitVec.setWidth_eq]

theorem depthClear_eq (s : State) :
    depthClear s = if s.depthClearMode = .backgndD then reg s .ispBackgndD else 0x7F7FFFFF := by
  unfold depthClear
  cases s.depthClearMode <;> rfl

/-- Beside the tile buffers and `and_phase` tile setup changes the tile's place and empties the cache (R210). -/
theorem tileSetup_frame (s : State) : tileSetup s = { s with
    tile := (tileSetup s).tile, andPhase := (tileSetup s).andPhase, tilex := s.entry.tilex, tiley := s.entry.tiley
    fpuCache := [] } := by
  unfold tileSetup
  dsimp only
  split <;> rfl

theorem tileSetup_clear {s : State} (h : s.entry.zKeep = false) (i : Fin 1024) :
    (tileSetup s).andPhase = false ∧ pixel (tileSetup s) i = clearedPixel s (pixel s i) := by
  rw [tileSetup, h]
  exact ⟨rfl, pixel_mapTile i _ _⟩

theorem tileSetup_keep {s : State} (h : s.entry.zKeep = true) (i : Fin 1024) :
    (tileSetup s).andPhase = s.andPhase ∧ pixel (tileSetup s) i = { pixel s i with status := 0 } := by
  rw [tileSetup, h]
  exact ⟨rfl, pixel_mapTile i _ _⟩

/-- Settles O23: the frame of tile setup and its two kinds of pixel. -/
theorem tileSetupLeaves : Obligations.TileSetup := by
  intro s hc
  refine ⟨_, step_setup hc, ?frame, fun hz => ⟨(tileSetup_clear hz 0).1, fun i => ?clear⟩,
    fun hz => ⟨(tileSetup_keep hz 0).1, fun i => (tileSetup_keep hz i).2⟩⟩
  case frame => exact congrArg (fun t : State => { t with ctl := .opaqueStart }) (tileSetup_frame s)
  case clear =>
    refine (tileSetup_clear hz i).2.trans ?_
    rw [clearedPixel, depthClear_eq, bgTag_eq, borderColor_eq]
    rfl

/-! ### The order of the passes -/

theorem traverse_eq {m : RenderMode} (hm : m ≠ .punchthroughPassN) (p : ListPointer) (k : Ctl) (s : State) :
    traverse p m k s = { s with mode := m, listPtr := p.address, resume := k, ctl := .walk } := if_neg hm

theorem traverseUnlessEmpty_eq {m : RenderMode} (hm : m ≠ .punchthroughPassN) (p : ListPointer) (k : Ctl)
    (s : State) : traverseUnlessEmpty p m k s = if p.empty then { s with ctl := k }
      else { s with mode := m, listPtr := p.address, resume := k, ctl := .walk } := by
  rw [traverseUnlessEmpty, traverse_eq hm]

/-- Settles O24: at each position the step is the driver's action; none of these traversals is PUNCHTHROUGH_PASSN. -/
theorem passesInOrder : Obligations.PassesInOrder := by
  unfold Obligations.PassesInOrder
  intro walk tags s
  have action : ∀ {c : Ctl}, s.ctl = c → fetchPoint s = none → step s = driverStep s := fun _ => step_eq_driverStep
  refine ⟨fun h => ?_, fun h => ?_, fun h => ?_, fun h he => ?_, fun h => ?_, fun h => ?_, fun h => ?_,
    fun h he => ?_, fun h he hp => ?_, fun h hw => ?_, fun h => ?_⟩
  all_goals rw [action h (by simp [fetchPoint, *])]; simp only [driverStep, h]
  · rw [opaqueStart, traverse_eq (m := .opaqueMode) nofun]
  · rw [traverseUnlessEmpty_eq (m := .modifier) nofun]
  · rfl
  · rw [ptStart, if_pos he]
  · rw [ptTags, renderTagsThen, h]
  · rw [ptModStart, traverse_eq (m := .modifier) nofun]
  · rfl
  · rw [transStart, if_pos he]
  · rw [transStart, he, hp, traverse_eq (m := .translucentPresort) nofun]
    rfl
  · rfl

/-! ### The auto-sort loop -/

theorem step_transStart {s : State} (h : s.ctl = .transStart) : step s = .next (transStart s) := by
  rw [step_eq_driverStep (by simp only [fetchPoint, h])]
  simp only [driverStep, h]

theorem step_sortIterate {s : State} (h : s.ctl = .sortIterate) : step s = .next (sortIterate s) := by
  rw [step_eq_driverStep (by simp only [fetchPoint, h])]
  simp only [driverStep, h]

/-- The initialisation of the auto-sort loop (R227). -/
theorem transStart_of_autosort {s : State} (hl : s.entry.transList.empty = false) (hp : s.entry.preSort = false) :
    transStart s = { mapTile (fun p => { p with tag := 0xFFFFFFFF }) s with ctl := .sortIterate } := by
  rw [transStart, hl, hp]
  rfl

/-- An iteration clears and copies at every pixel, and begins the traversal (R228, R229). -/
theorem sortIterate_eq (s : State) : sortIterate s = { s with
    tile := s.tile.map sortPixel
    moreToDraw := false
    andPhase := false
    mode := .translucentAutosort
    listPtr := s.entry.transList.address
    resume := .sortModStart
    ctl := .walk } :=
  traverse_eq (m := .translucentAutosort) nofun _ _ _

/-- Settles O26: each position's action, the two with tile buffers pixel by pixel. -/
theorem autosortLoop : Obligations.AutosortLoop := by
  intro s hlist
  refine ⟨fun hc hp => ?init, fun hc => ?iterate, fun hc => ?mod, fun hc => ?tags, fun hc => ?test⟩
  case init =>
    rw [step_transStart hc, transStart_of_autosort hlist hp]
    exact ⟨_, rfl, rfl, fun i => pixel_mapTile i _ s⟩
  case iterate =>
    rw [step_sortIterate hc, sortIterate_eq]
    exact ⟨_, rfl, rfl, fun i => pixel_mapTile i sortPixel s⟩
  case mod =>
    rw [step_eq_driverStep (by simp only [fetchPoint, hc])]
    simp only [driverStep, hc]
    rw [traverseUnlessEmpty_eq (m := .modifier) nofun]
  case tags =>
    rw [step_eq_driverStep (by simp only [fetchPoint, hc])]
    simp only [driverStep, hc]
    rfl
  case test =>
    rw [step_eq_driverStep (by simp only [fetchPoint, hc])]
    simp only [driverStep, hc]
    rfl

end Sys2Proof.Machine
end

section
/-! PROOF. R353 and R354: the fold of VOL_AND, one bit of one pixel at a time. -/

namespace Sys2Proof.Machine

/-- ANDing with the mask of bit 2 clears it and keeps the other bits. -/
theorem getLsbD_and_notBit2 (b : Byte) (k : Nat) : (b &&& 0xFB).getLsbD k = (b.getLsbD k && decide (k ≠ 2)) := by
  have hmask : ∀ j : Fin 8, (0xFB : Byte).getLsbD j = decide (j.val ≠ 2) := by decide
  rw [BitVec.getLsbD_and]
  by_cases hk : k < 8
  · exact congrArg (b.getLsbD k && ·) (hmask ⟨k, hk⟩)
  · simp [BitVec.getLsbD_of_ge b k (by omega)]

/-- The three kinds of bit of a folded stencil: bit 0 is cleared, bit 2 stays only with bit 0, the others stay
(R353). -/
theorem getLsbD_foldAnd (b : Byte) (k : Nat) : (foldAnd b).getLsbD k =
    if k = 0 then false else if k = 2 then b.getLsbD 2 && b.getLsbD 0 else b.getLsbD k := by
  rw [foldAnd, getLsbD_clearBit0, apply_ite (BitVec.getLsbD · k), getLsbD_and_notBit2]
  by_cases h0 : k = 0
  · simp [h0]
  · by_cases h2 : k = 2
    · subst h2
      cases b.getLsbD 0 <;> simp
    · simp [h0, h2]

/-- Settles O44: VOL_NONE is the identity, VOL_AND rewrites every stencil as `getLsbD_foldAnd` says. -/
theorem stencilAndFold : Obligations.StencilAndFold := by
  intro s c
  refine ⟨rfl, summarizeStencilAnd s, rfl, rfl, fun i => ?_⟩
  rw [pixel_summarizeStencilAnd]
  exact ⟨rfl, getLsbD_foldAnd (pixel s i).stencil⟩

end Sys2Proof.Machine
end

section
/-! PROOF. The address map (R93, R94), the packed pixel read back (R506), and the writeback of a whole tile (R500, R505,
R510, R511). -/

namespace Sys2Proof.Machine

/-! ### The address map -/

/-- The map as a rearrangement of the address bits (R93). -/
theorem pvrMap32_eq_append (a : BitVec 23) :
    pvrMap32 a.toNat = (a.extractLsb' 2 20 ++ a.extractLsb' 22 1 ++ a.extractLsb' 0 2).toNat := by
  have ha := a.isLt
  have hlow : (a.extractLsb' 0 2).toNat < 2 ^ 2 := BitVec.isLt _
  have hbank : (a.extractLsb' 22 1).toNat < 2 ^ 1 := BitVec.isLt _
  rw [BitVec.toNat_append, BitVec.toNat_append, ← Nat.shiftLeft_add_eq_or_of_lt hbank,
    ← Nat.shiftLeft_add_eq_or_of_lt hlow]
  simp only [BitVec.extractLsb'_toNat, Nat.shiftRight_eq_div_pow, Nat.shiftLeft_eq]
  unfold pvrMap32
  omega

theorem pvrMap32_eq (a : Nat) : pvrMap32 a = a / 4 % 1048576 * 8 + a / 4194304 % 2 * 4 + a % 4 := rfl

theorem pvrMap32_inj {a b : Nat} (ha : a < 8388608) (hb : b < 8388608) (h : pvrMap32 a = pvrMap32 b) : a = b := by
  rw [pvrMap32_eq, pvrMap32_eq] at h
  have hlow : a % 4 = b % 4 := by omega
  have hmid : a / 4 % 1048576 = b / 4 % 1048576 := by omega
  have hbank : a / 4194304 = b / 4194304 := by omega
  omega

/-- The address whose image is `p`. -/
def pvrUnmap32 (p : Nat) : Nat := p / 4 % 2 * 4194304 + p / 8 * 4 + p % 4

theorem pvrMap32_unmap {p : Nat} (h : p < 8388608) : pvrUnmap32 p < 8388608 ∧ pvrMap32 (pvrUnmap32 p) = p := by
  have hmid : pvrUnmap32 p / 4 % 1048576 = p / 8 := by unfold pvrUnmap32; omega
  have hbank : pvrUnmap32 p / 4194304 = p / 4 % 2 := by unfold pvrUnmap32; omega
  have hlow : pvrUnmap32 p % 4 = p % 4 := by unfold pvrUnmap32; omega
  rw [pvrMap32_eq, hmid, hbank, hlow]
  exact ⟨by unfold pvrUnmap32; omega, by omega⟩

theorem pvrMap32_lt_of_lt {a b : Nat} (hab : a < b) (hbank : a / 4194304 = b / 4194304) :
    pvrMap32 a < pvrMap32 b := by
  rw [pvrMap32_eq, pvrMap32_eq]
  omega

/-- Settles O6. -/
theorem addressMapBijection : Obligations.AddressMapBijection := by
  refine ⟨pvrMap32_eq_append, fun a _ => pvrMap32_lt, fun a b => pvrMap32_inj,
    fun p hp => ⟨pvrUnmap32 p, pvrMap32_unmap hp⟩,
    fun a b hab _ hbank => pvrMap32_lt_of_lt hab hbank, fun k hk => ?_, by decide⟩
  unfold pvrMap32
  omega

/-! ### A packed pixel -/

/-- The bytes of a word put together from bytes (R99). -/
theorem byteOfWord_wordOfBytes (b0 b1 b2 b3 : Byte) :
    byteOfWord (wordOfBytes b0 b1 b2 b3) 0 = b0 ∧ byteOfWord (wordOfBytes b0 b1 b2 b3) 1 = b1 ∧
      byteOfWord (wordOfBytes b0 b1 b2 b3) 2 = b2 ∧ byteOfWord (wordOfBytes b0 b1 b2 b3) 3 = b3 := by
  have h0 := b0.isLt
  have h1 := b1.isLt
  have h2 := b2.isLt
  have h3 := b3.isLt
  refine ⟨?_, ?_, ?_, ?_⟩ <;> apply BitVec.eq_of_toNat_eq <;>
    simp only [byteOfWord, wordOfBytes, BitVec.toNat_ofNat] <;> omega

/-- A word read where it was written. -/
theorem word32_store32 {m : List Host.Cell} (hm : Memory.wf m = true) {a : Nat} (h : a % 4 = 0) (v : Word) :
    word32 (store32 m a v) a = v := by
  unfold word32
  simp only [Memory.read_store32 hm h]
  simp [wordOfBytes_byteOfWord]

/-- A field of eight bits is a byte of the word. -/
theorem ofNat_bits_eq_byteOfWord (w : Word) (k : Nat) :
    BitVec.ofNat 8 (bits w (8 * k + 7) (8 * k)) = byteOfWord w k := by
  rw [byteOfWord_eq_extract, bits_eq_extract, show 8 * k + 7 + 1 - 8 * k = 8 by omega, BitVec.ofNat_toNat,
    BitVec.setWidth_eq]

/-- Read as an ARGB8888 texel a packed pixel has red and blue exchanged (R166, R505). -/
theorem decodeArgb8888_pack8888 (c : Color) : decodeArgb8888 (pack8888 c) = ⟨c.b, c.g, c.r, c.a⟩ := by
  obtain ⟨hr, hg, hb, ha⟩ := byteOfWord_wordOfBytes c.r c.g c.b c.a
  have hfield := ofNat_bits_eq_byteOfWord (pack8888 c)
  rw [decodeArgb8888, unpackColor, hfield 0, hfield 1, hfield 2, hfield 3, pack8888, hr, hg, hb, ha]

theorem pack8888_inj {c d : Color} (h : pack8888 c = pack8888 d) : c = d := by
  have hc := decodeArgb8888_pack8888 c
  rw [h, decodeArgb8888_pack8888 d, Color.mk.injEq] at hc
  obtain ⟨hb, hg, hr, ha⟩ := hc
  cases c
  cases d
  simp_all

/-- Settles O9. -/
theorem packedWordRoundTrip : Obligations.PackedWordRoundTrip := by
  refine ⟨fun s a c hm ha => ?_, fun c d => pack8888_inj, decodeArgb8888_pack8888⟩
  rw [write32_vram]
  exact word32_store32 hm ha _

/-! ### The writeback of a tile -/

/-- `store i` writes the `n` bytes `byte i` from address `base i` on and no other byte; the places of two pixels are the
same or apart. -/
structure StoresBytes (n : Nat) (store : Fin 1024 → List Host.Cell → List Host.Cell) (base : Fin 1024 → Nat)
    (byte : Fin 1024 → Nat → Byte) : Prop where
  wf : ∀ i {m}, Memory.wf m = true → Memory.wf (store i m) = true
  apart : ∀ i j, base i ≠ base j → base i + n ≤ base j ∨ base j + n ≤ base i
  inside : ∀ i {m}, Memory.wf m = true → ∀ k < n, Memory.read (store i m) (base i + k) = byte i k
  outside : ∀ i {m}, Memory.wf m = true → ∀ q, (q < base i ∨ base i + n ≤ q) →
    Memory.read (store i m) q = Memory.read m q

section
variable {n : Nat} {store : Fin 1024 → List Host.Cell → List Host.Cell} {base : Fin 1024 → Nat}
  {byte : Fin 1024 → Nat → Byte} (h : StoresBytes n store base byte)
include h

theorem StoresBytes.foldl_wf (l : List (Fin 1024)) {m : List Host.Cell} (hm : Memory.wf m = true) :
    Memory.wf (l.foldl (fun m i => store i m) m) = true := by
  induction l generalizing m with
  | nil => exact hm
  | cons i l ih => exact ih (h.wf i hm)

theorem StoresBytes.foldl_outside (l : List (Fin 1024)) {m : List Host.Cell} (hm : Memory.wf m = true) {q : Nat}
    (hq : ∀ i ∈ l, q < base i ∨ base i + n ≤ q) :
    Memory.read (l.foldl (fun m i => store i m) m) q = Memory.read m q := by
  induction l generalizing m with
  | nil => rfl
  | cons i l ih =>
    rw [List.forall_mem_cons] at hq
    rw [List.foldl_cons, ih (h.wf i hm) hq.2, h.outside i hm q hq.1]

/-- The bytes of the last pixel stored at a place stand there afterwards (R511). -/
theorem StoresBytes.foldl_inside {l : List (Fin 1024)} (hsorted : l.Pairwise (· < ·)) {m : List Host.Cell}
    (hm : Memory.wf m = true) {i : Fin 1024} (hi : i ∈ l) (hlast : ∀ j, i < j → base j ≠ base i) {k : Nat}
    (hk : k < n) : Memory.read (l.foldl (fun m i => store i m) m) (base i + k) = byte i k := by
  obtain ⟨before, after, rfl⟩ := List.append_of_mem hi
  rw [List.pairwise_append, List.pairwise_cons] at hsorted
  obtain ⟨-, ⟨hlt, -⟩, -⟩ := hsorted
  have hw := h.foldl_wf before hm
  rw [List.foldl_append, List.foldl_cons, h.foldl_outside after (h.wf i hw), h.inside i hw k hk]
  intro j hj
  have := h.apart j i (hlast j (hlt j hj))
  omega

end

/-- The report of an access at `a` (R95). -/
def accessReport (a : Nat) : List FrameError := if vramSize ≤ a then [.addressOutOfRange a] else []

theorem write32_eq (a : Nat) (v : Word) (s : State) :
    write32 a v s = { s with vram := store32 s.vram a v, errors := s.errors ++ accessReport a } := touch_eq a _

theorem write16_eq (a : Nat) (v : Half) (s : State) :
    write16 a v s = { s with vram := store16 s.vram a v, errors := s.errors ++ accessReport a } := touch_eq a _

/-- What a run of pixel writes leaves, for writes that see of the state only what no write changes. -/
theorem foldl_pixelWrites {write : Fin 1024 → State → State} {store : Fin 1024 → List Host.Cell → List Host.Cell}
    {rep : Fin 1024 → List FrameError} {s : State}
    (hwrite : ∀ i m es, write i { s with vram := m, errors := es } =
      { s with vram := store i m, errors := es ++ rep i }) (l : List (Fin 1024)) (m : List Host.Cell)
    (es : List FrameError) :
    l.foldl (fun t i => write i t) { s with vram := m, errors := es } =
      { s with vram := l.foldl (fun m i => store i m) m, errors := es ++ l.flatMap rep } := by
  induction l generalizing m es with
  | nil => simp
  | cons i l ih => rw [List.foldl_cons, hwrite, ih, List.flatMap_cons, List.append_assoc, List.foldl_cons]

theorem storesBytes_32 (addr : Fin 1024 → Nat) (v : Fin 1024 → Word) (haddr : ∀ i, addr i % 4 = 0) :
    StoresBytes 4 (fun i m => store32 m (addr i) (v i)) (fun i => physical (addr i)) fun i k => byteOfWord (v i) k where
  wf i _ hm := Memory.wf_store32 hm (haddr i) _
  apart i j hij := by
    have hi := (physical_word (haddr i)).1
    have hj := (physical_word (haddr j)).1
    omega
  inside i _ hm k hk := by
    rw [Memory.read_store32 hm (haddr i)]
    interval_cases k <;> simp
  outside i _ hm q hq := by
    rw [Memory.read_store32 hm (haddr i)]
    grind

theorem storesBytes_16 (addr : Fin 1024 → Nat) (v : Fin 1024 → Half) (haddr : ∀ i, addr i % 2 = 0) :
    StoresBytes 2 (fun i m => store16 m (addr i) (v i)) (fun i => physical (addr i))
      fun i k => (v i).extractLsb' (8 * k) 8 where
  wf i _ hm := Memory.wf_store16 hm (haddr i) _
  apart i j hij := by
    have hi := (physical_even (haddr i)).1
    have hj := (physical_even (haddr j)).1
    omega
  inside i _ hm k hk := by
    rw [Memory.read_store16_eq_extract hm (haddr i)]
    interval_cases k <;> simp
  outside i _ hm q hq := by
    rw [Memory.read_store16_eq_extract hm (haddr i)]
    grind

/-- The reports of a writeback with `bpp` bytes a pixel, in the order of its writes (R510). -/
def writeReports (s : State) (bpp : Nat) (l : List (Fin 1024)) : List FrameError :=
  l.flatMap fun i => if 0x800000 ≤ pixelAddress s bpp i then [.addressOutOfRange (pixelAddress s bpp i)] else []

/-- The pixel writes of pack mode 6 over pixels in rising order (R505, R510, R511). -/
theorem writePixels8888_effect (s : State) {l : List (Fin 1024)} (hsorted : l.Pairwise (· < ·))
    (hm : Memory.wf s.vram = true) :
    ∃ m, l.foldl (fun t i => writePixel8888 i t) s =
        { s with vram := m, errors := s.errors ++ writeReports s 4 l } ∧
      (∀ i ∈ l, (∀ j, i < j → physical (pixelAddress s 4 j) ≠ physical (pixelAddress s 4 i)) →
        word32 m (pixelAddress s 4 i) = pack8888 (pixel s i).accum) ∧
      ∀ q, (∀ i, q < physical (pixelAddress s 4 i) ∨ physical (pixelAddress s 4 i) + 4 ≤ q) →
        Memory.read m q = Memory.read s.vram q := by
  have hstores := storesBytes_32 (pixelAddress s 4) (fun i => pack8888 (pixel s i).accum) (pixelAddress_word s)
  refine ⟨_, foldl_pixelWrites (s := s) (fun _ m es => write32_eq _ _ { s with vram := m, errors := es }) l s.vram
    s.errors, fun i hi hlast => ?_, fun q hq => hstores.foldl_outside l hm fun i _ => hq i⟩
  have hbyte := fun k (hk : k < 4) => hstores.foldl_inside hsorted hm hi hlast hk
  have h0 := hbyte 0 (by decide)
  rw [Nat.add_zero] at h0
  rw [word32, h0, hbyte 1 (by decide), hbyte 2 (by decide), hbyte 3 (by decide), wordOfBytes_byteOfWord]

/-- The pixel writes of pack mode 1 over pixels in rising order (R502, R510, R511). -/
theorem writePixels565_effect (s : State) {l : List (Fin 1024)} (hsorted : l.Pairwise (· < ·))
    (hm : Memory.wf s.vram = true) :
    ∃ m, l.foldl (fun t i => writePixel565 i t) s =
        { s with vram := m, errors := s.errors ++ writeReports s 2 l } ∧
      (∀ i ∈ l, (∀ j, i < j → physical (pixelAddress s 2 j) ≠ physical (pixelAddress s 2 i)) →
        Memory.read m (physical (pixelAddress s 2 i) + 1) ++ Memory.read m (physical (pixelAddress s 2 i)) =
          pack565 (pixel s i).accum (screenX s i) (screenY s i)) ∧
      ∀ q, (∀ i, q < physical (pixelAddress s 2 i) ∨ physical (pixelAddress s 2 i) + 2 ≤ q) →
        Memory.read m q = Memory.read s.vram q := by
  have hstores := storesBytes_16 (pixelAddress s 2)
    (fun i => pack565 (pixel s i).accum (screenX s i) (screenY s i)) (pixelAddress_even s)
  refine ⟨_, foldl_pixelWrites (s := s) (fun _ m es => write16_eq _ _ { s with vram := m, errors := es }) l s.vram
    s.errors, fun i hi hlast => ?_, fun q hq => hstores.foldl_outside l hm fun i _ => hq i⟩
  have hbyte := fun k (hk : k < 2) => hstores.foldl_inside hsorted hm hi hlast hk
  have h0 := hbyte 0 (by decide)
  rw [Nat.add_zero] at h0
  rw [h0, hbyte 1 (by decide), BitVec.extractLsb'_append_extractLsb'_eq_extractLsb' (by decide)]
  exact BitVec.extractLsb'_eq_self

/-- At the writeback a pack code does its writes and ends the entry (R231, R501). -/
theorem exec_pack_writeback {s t : State} {i : Instr} (write : State → State)
    (hexec : exec i s = .next (supportedPack write s)) (hctl : s.ctl = .writeback) (hwrite : write s = t) :
    exec i s = .next { t with ctl := .entryEnd } := by
  rw [hexec, supportedPack_writeback hctl, hwrite]

/-- A pixel's address, its registers' fields cut out (R500, R512). -/
theorem pixelAddress_eq (s : State) (bpp : Nat) (i : Fin 1024) :
    ((reg s .fbWSof1).extractLsb' 2 23).toNat * 4 + (32 * s.tilex + i.val % 32) * bpp +
      (32 * s.tiley + i.val / 32) * (((reg s .fbWLinestride).extractLsb' 0 9).toNat * 8) = pixelAddress s bpp i := by
  rw [pixelAddress, frameStart, strideBytes, bits_eq_extract, bits_eq_extract]
  rfl

theorem physical_eq (a : Nat) : pvrMap32 (a % 0x800000) = physical a := rfl

/-- Settles O59: the writes are a run of stores, each at its pixel's aligned place. -/
theorem writebackStoresTile : Obligations.WritebackStoresTile := by
  intro s hm hctl
  simp only [pixelAddress_eq, physical_eq]
  have hsorted := List.pairwise_lt_finRange 1024
  constructor
  · obtain ⟨m, hwrite, hword, hother⟩ := writePixels8888_effect s hsorted hm
    exact ⟨_, exec_pack_writeback writeback8888 rfl hctl hwrite, rfl, fun i => hword i (List.mem_finRange i), hother⟩
  · obtain ⟨m, hwrite, hhalf, hother⟩ := writePixels565_effect s hsorted hm
    exact ⟨_, exec_pack_writeback writeback565 rfl hctl hwrite, rfl, fun i => hhalf i (List.mem_finRange i), hother⟩

end Sys2Proof.Machine
end

section
/-! PROOF. Colour arithmetic and blending (R460, R461), the arithmetic of sampling (R413, R431). -/

namespace Sys2Proof.Machine

/-! ### Colour arithmetic -/

/-- A byte made of a number that fits is that number. -/
theorem toNat_ofNat8 {n : Nat} (h : n ≤ 255) : (BitVec.ofNat 8 n).toNat = n := by
  rw [BitVec.toNat_ofNat, Nat.mod_eq_of_lt (by omega)]

theorem byte_le (a : Byte) : a.toNat ≤ 255 := by
  have := a.isLt
  omega

theorem toNat_mul8 (a b : Byte) : (mul8 a b).toNat = (a.toNat * b.toNat + 127) / 255 := by
  have h := Nat.mul_le_mul (byte_le a) (byte_le b)
  exact toNat_ofNat8 (by omega)

/-- A number between two bytes, rounded: the weights add up to 255. -/
theorem toNat_lerp8 (a b f : Byte) :
    (lerp8 a b f).toNat = (b.toNat * f.toNat + a.toNat * (255 - f.toNat) + 127) / 255 := by
  have ha := Nat.mul_le_mul_right (255 - f.toNat) (byte_le a)
  have hb := Nat.mul_le_mul_right f.toNat (byte_le b)
  have hf := byte_le f
  exact toNat_ofNat8 (by omega)

theorem toNat_add8 (a b : Byte) : (add8 a b).toNat = min (a.toNat + b.toNat) 255 :=
  toNat_ofNat8 (Nat.min_le_right _ _)

/-- 255 is the unit of `mul8`. -/
theorem mul8_255 (a : Byte) : mul8 a 255 = a := by
  apply BitVec.eq_of_toNat_eq
  rw [toNat_mul8, show (255 : Byte).toNat = 255 from rfl]
  omega

/-- 0 is the zero of `mul8`. -/
theorem mul8_zero (a : Byte) : mul8 a 0 = 0 := by
  apply BitVec.eq_of_toNat_eq
  rw [toNat_mul8]
  simp

theorem add8_zero (a : Byte) : add8 a 0 = a := by
  apply BitVec.eq_of_toNat_eq
  rw [toNat_add8]
  exact Nat.min_eq_left (byte_le a)

theorem lerp8_zero (a b : Byte) : lerp8 a b 0 = a := by
  apply BitVec.eq_of_toNat_eq
  rw [toNat_lerp8, show (0 : Byte).toNat = 0 from rfl]
  omega

theorem lerp8_255 (a b : Byte) : lerp8 a b 255 = b := by
  apply BitVec.eq_of_toNat_eq
  rw [toNat_lerp8, show (255 : Byte).toNat = 255 from rfl]
  omega

theorem inv8_eq_sub (x : Byte) : inv8 x = 255 - x := by
  have := byte_le x
  apply BitVec.eq_of_toNat_eq
  rw [inv8, toNat_ofNat8 (by omega), BitVec.toNat_sub_of_le (by simpa [BitVec.le_def] using this)]
  rfl

/-! ### Blending -/

theorem zipColor_mul8_grey_255 (c : Color) : zipColor mul8 c (grey 255) = c := by
  simp only [zipColor, grey, mul8_255]

theorem zipColor_mul8_grey_zero (c : Color) : zipColor mul8 c (grey 0) = grey 0 := by
  simp only [zipColor, grey, mul8_zero]

theorem zipColor_add8_grey_zero (c : Color) : zipColor add8 c (grey 0) = c := by
  simp only [zipColor, grey, add8_zero]

/-- One/zero blending stores the shaded colour (R461). -/
theorem blendPixel_one_zero {s : State} (hsrc : bits s.tsp.tspWord 31 29 = 1) (hdst : bits s.tsp.tspWord 28 26 = 0) :
    (pixel (blendPixel s) s.pix).accum = s.tsp.c := by
  rw [blendPixel, hsrc, hdst]
  unfold evalDst evalSrc
  simp only [setTsp_pix, setTsp_tsp, pixel_updatePixel_self, blendFactor, zipColor_mul8_grey_255,
    zipColor_mul8_grey_zero, zipColor_add8_grey_zero]

/-- Settles O46. -/
theorem colourArithmetic : Obligations.ColourArithmetic :=
  ⟨fun a b => ⟨toNat_mul8 a b, mul8_255 a, mul8_zero a⟩,
    fun a b f => ⟨toNat_lerp8 a b f, lerp8_zero a b, lerp8_255 a b⟩, toNat_add8, fun _ => blendPixel_one_zero⟩

theorem invColor_eq (c : Color) : invColor c = ⟨255 - c.r, 255 - c.g, 255 - c.b, 255 - c.a⟩ := by
  simp only [invColor, inv8_eq_sub]

/-- What a DST code with factor `f` does (R460, R461). -/
theorem evalDst_effect {s : State} {i : Instr} {k : Nat} (hi : exec i s = .next (evalDst k s)) {r g b a : Byte}
    (hf : blendFactor k s.tsp.c s.tsp.c (pixel s s.pix).accum = ⟨r, g, b, a⟩) :
    ∃ t, exec i s = .next t ∧ t = { s with tile := t.tile } ∧
      OtherPixels s.pix s t ∧ pixel t s.pix = { pixel s s.pix with
        accum := ⟨add8 s.tsp.srcTerm.r (mul8 (pixel s s.pix).accum.r r),
          add8 s.tsp.srcTerm.g (mul8 (pixel s s.pix).accum.g g), add8 s.tsp.srcTerm.b (mul8 (pixel s s.pix).accum.b b),
          add8 s.tsp.srcTerm.a (mul8 (pixel s s.pix).accum.a a)⟩ } := by
  refine ⟨_, hi, rfl, fun j hj => pixel_updatePixel_other _ j _ s hj, ?_⟩
  rw [evalDst, hf]
  exact pixel_updatePixel_self _ _ s

/-- Settles O45: each code is the model's operation with its factor of the table. -/
theorem blendCodes : Obligations.BlendCodes := by
  intro s
  have hsum : ∀ x y f : Byte, BitVec.ofNat 8 (min 255 (x.toNat + (mul8 y f).toNat)) = add8 x (mul8 y f) :=
    fun x y f => by rw [add8, Nat.min_comm]
  simp only [hsum]
  refine ⟨rfl, rfl, rfl, ?_, rfl, ?_, rfl, ?_, evalDst_effect (k := 0) rfl rfl, evalDst_effect (k := 1) rfl rfl,
    evalDst_effect (k := 2) rfl rfl, evalDst_effect (k := 3) rfl (invColor_eq _), evalDst_effect (k := 4) rfl rfl,
    evalDst_effect (k := 5) rfl ?_, evalDst_effect (k := 6) rfl rfl, evalDst_effect (k := 7) rfl ?_⟩
  all_goals
    simp only [← inv8_eq_sub]
    rfl

/-! ### Sampling arithmetic -/

/-- Clamping (R413). -/
theorem addressTexel_clamp (i : Int) {n : Nat} (hn : 0 < n) (f : Bool) :
    (addressTexel i n true f : Int) = max 0 (min i ((n : Int) - 1)) := by
  simp only [addressTexel, ↓reduceIte]
  omega

/-- Wrapping (R413). -/
theorem addressTexel_wrap (i : Int) {n : Nat} (hn : 0 < n) : (addressTexel i n false false : Int) = i % n := by
  simp only [addressTexel, Bool.false_eq_true, ↓reduceIte]
  exact Int.toNat_of_nonneg (Int.emod_nonneg i (by omega))

/-- Mirroring (R413). -/
theorem addressTexel_mirror (i : Int) {n : Nat} (hn : 0 < n) :
    (addressTexel i n false true : Int) = if i % (2 * n) < n then i % (2 * n) else 2 * n - 1 - i % (2 * n) := by
  have h0 := Int.emod_nonneg i (b := 2 * n) (by omega)
  have h1 := Int.emod_lt_of_pos i (b := 2 * n) (by omega)
  simp only [addressTexel, Bool.false_eq_true, ↓reduceIte]
  split <;> omega

/-- The addressed coordinate is one of the level (R413). -/
theorem addressTexel_lt (i : Int) {n : Nat} (hn : 0 < n) (c f : Bool) : addressTexel i n c f < n := by
  zify
  cases c with
  | true =>
    rw [addressTexel_clamp i hn]
    omega
  | false =>
    cases f with
    | true =>
      rw [addressTexel_mirror i hn]
      have h0 := Int.emod_nonneg i (b := 2 * n) (by omega)
      have h1 := Int.emod_lt_of_pos i (b := 2 * n) (by omega)
      split <;> omega
    | false =>
      rw [addressTexel_wrap i hn]
      exact Int.emod_lt_of_pos i (by omega)

/-- The four weights of a bilinear sum add up to 65536 (R431). -/
theorem bilinear_weights {wu wv : Nat} (hu : wu ≤ 256) (hv : wv ≤ 256) :
    (256 - wu) * (256 - wv) + wu * (256 - wv) + (256 - wu) * wv + wu * wv = 65536 := by
  obtain ⟨a, ha⟩ := Nat.exists_eq_add_of_le hu
  obtain ⟨b, hb⟩ := Nat.exists_eq_add_of_le hv
  have ha' : 256 - wu = a := by omega
  have hb' : 256 - wv = b := by omega
  calc (256 - wu) * (256 - wv) + wu * (256 - wv) + (256 - wu) * wv + wu * wv = (wu + a) * (wv + b) := by
        rw [ha', hb']
        ring
    _ = 65536 := by rw [← ha, ← hb]

theorem toNat_bilinearChannel (t00 t10 t01 t11 : Byte) {wu wv : Nat} (hu : wu ≤ 256) (hv : wv ≤ 256) :
    (bilinearChannel t00 t10 t01 t11 wu wv).toNat =
      (t00.toNat * (256 - wu) * (256 - wv) + t10.toNat * wu * (256 - wv) + t01.toNat * (256 - wu) * wv
        + t11.toNat * wu * wv) / 65536 := by
  have hw := bilinear_weights hu hv
  have h00 := Nat.mul_le_mul_right ((256 - wu) * (256 - wv)) (byte_le t00)
  have h10 := Nat.mul_le_mul_right (wu * (256 - wv)) (byte_le t10)
  have h01 := Nat.mul_le_mul_right ((256 - wu) * wv) (byte_le t01)
  have h11 := Nat.mul_le_mul_right (wu * wv) (byte_le t11)
  unfold bilinearChannel
  simp only [Nat.mul_assoc]
  exact toNat_ofNat8 (by omega)

theorem bilinearChannel_same (t : Byte) {wu wv : Nat} (hu : wu ≤ 256) (hv : wv ≤ 256) :
    bilinearChannel t t t t wu wv = t := by
  have hw := bilinear_weights hu hv
  apply BitVec.eq_of_toNat_eq
  rw [toNat_bilinearChannel t t t t hu hv]
  simp only [Nat.mul_assoc, ← Nat.mul_add]
  rw [hw]
  exact Nat.mul_div_cancel _ (by decide)

/-- Settles O50. -/
theorem samplingArithmetic : Obligations.SamplingArithmetic :=
  ⟨fun i _ f hn => ⟨addressTexel_clamp i hn f, addressTexel_wrap i hn, addressTexel_mirror i hn,
      fun c => addressTexel_lt i hn c f⟩,
    fun t00 t10 t01 t11 _ _ hu hv => ⟨toNat_bilinearChannel t00 t10 t01 t11 hu hv, bilinearChannel_same t00 hu hv⟩⟩

end Sys2Proof.Machine
end

section
/-! PROOF. The texture sampler: texel indices, texel formats, palette, filter codes (R411 to R432). -/

namespace Sys2Proof.Machine

/-! ### Filter codes -/

theorem mkRat_one_two : mkRat 1 2 = 1 / 2 := by norm_num [Rat.mkRat_eq_div]

theorem ratFloor_eq (x : ℚ) : x.floor = ⌊x⌋ := rfl

/-- The 8-bit weight of a fractional part (R431). -/
theorem floor_fract_mul_le (x : ℚ) : ⌊(x - ⌊x⌋) * 256⌋.toNat ≤ 255 := by
  have hlt : (x - ⌊x⌋) * 256 < 256 := by linarith [Int.lt_floor_add_one x]
  have : ⌊(x - ⌊x⌋) * 256⌋ < 256 := Int.floor_lt.mpr (by exact_mod_cast hlt)
  omega

/-- Settles O51. -/
theorem filterCodes : Obligations.FilterCodes := by
  unfold Obligations.FilterCodes
  intro s
  simp only [← bit_eq_getLsbD, ← mkRat_one_two]
  refine ⟨rfl, rfl, rfl, rfl, floor_fract_mul_le _, floor_fract_mul_le _, shadeFrame_fetchTexel _ _ s,
    (((shadeFrame_fetchTexel _ _ s).trans (shadeFrame_fetchTexel _ _ _)).trans (shadeFrame_fetchTexel _ _ _)).trans
      (shadeFrame_fetchTexel _ _ _), fun fmt iu iv hdec hfmt => ?_⟩
  obtain rfl : decodePixelFmt s.tsp.tcw = fmt := Except.ok.inj hdec
  refine exec_decodePixelFmt (fun h => hfmt ?_) iu iv
  rw [bits_eq_extract] at h
  exact BitVec.eq_of_toNat_eq h

/-! ### Texel index -/

theorem texUSize_eq (w : Word) : texUSize w = 8 * 2 ^ (w.extractLsb' 3 3).toNat := by
  rw [texUSize, texBu, bits_eq_extract, Nat.pow_add, Nat.mul_comm]

theorem isPalette_iff (w : Word) :
    isPalette w = true ↔ (w.extractLsb' 27 3).toNat = 5 ∨ (w.extractLsb' 27 3).toNat = 6 := by
  rw [isPalette, bits_eq_extract, Bool.or_eq_true, beq_iff_eq, beq_iff_eq]

theorem isTwiddled_iff (w : Word) : isTwiddled w = true ↔ w.getLsbD 26 = false ∨ isPalette w = true := by
  rw [isTwiddled, Bool.or_eq_true, bit_eq_getLsbD, Bool.not_eq_true', or_comm]

theorem texVSize_of_not_twiddled {tsp tcw : Word} (h : isTwiddled tcw = false) :
    texVSize tsp tcw = 8 * 2 ^ (tsp.extractLsb' 0 3).toNat := by
  rw [texVSize, h, Bool.and_false, if_neg Bool.false_ne_true, bits_eq_extract, Nat.pow_add, Nat.mul_comm]

/-- TCW_MIPMAPPED on a twiddled texture (R411). -/
theorem evalMip_twiddled {s : State} (h : isTwiddled s.tsp.tcw = true) :
    ∃ d, d ≤ (s.tsp.tspWord.extractLsb' 3 3).toNat + 3 ∧ evalMip s = { s with
      tsp := { s.tsp with
        level := d, nu := texUSize s.tsp.tspWord / 2 ^ d, nv := texUSize s.tsp.tspWord / 2 ^ d } } := by
  refine ⟨min (Config.mipLevel s.tsp.params (pixelX s.pix) (pixelY s.pix)) (texBu s.tsp.tspWord), ?_, ?_⟩
  · rw [texBu, bits_eq_extract]
    exact Nat.min_le_right _ _
  · rw [evalMip, if_pos h]
    rfl

/-- TCW_MIPMAPPED on a stride-scan texture (R411). -/
theorem evalMip_strideScan {s : State} (h : isTwiddled s.tsp.tcw = false) :
    evalMip s = { s with
      tsp := { s.tsp with
        level := 0, nu := texUSize s.tsp.tspWord, nv := 8 * 2 ^ (s.tsp.tspWord.extractLsb' 0 3).toNat } } := by
  rw [evalMip, h, if_neg Bool.false_ne_true, ← texVSize_of_not_twiddled h]
  rfl

/-- Where the texture has a scan order, its code gives the index (R414). -/
theorem exec_decodeScan_scanTexel {s : State} (h : isPalette s.tsp.tcw = false) :
    exec (decodeScan s.tsp.tcw) s = .next (scanTexel s) := by
  rw [exec_decodeScan, scanTexel, isTwiddled, h, Bool.false_or]
  cases bit s.tsp.tcw 26 <;> rfl

/-- A palette texture is read twiddled (R414). -/
theorem scanTexel_of_palette {s : State} (h : isPalette s.tsp.tcw = true) : scanTexel s = evalTwiddled s := by
  rw [scanTexel, isTwiddled, h, Bool.true_or, if_pos rfl]

/-- Settles O52. -/
theorem texelIndexCodes : Obligations.TexelIndexCodes := by
  unfold Obligations.TexelIndexCodes
  intro s
  simp only [← texUSize_eq, ← isPalette_iff, ← isTwiddled_iff]
  refine ⟨rfl, rfl, ?_, fun h => ?_, fun h => ?_, fun h => ?_, fun h5 h6 scan hdec => ?_⟩
  · rw [← bits_eq_extract _ 4 0]
    rfl
  · obtain ⟨d, hd, heq⟩ := evalMip_twiddled h
    exact ⟨d, hd, congrArg Host.Outcome.next heq⟩
  · exact congrArg Host.Outcome.next (evalMip_strideScan (Bool.eq_false_of_not_eq_true h))
  · rw [scanTexel_of_palette h]
    rfl
  · obtain rfl : decodeScan s.tsp.tcw = scan := Except.ok.inj hdec
    refine exec_decodeScan_scanTexel (Bool.eq_false_of_not_eq_true fun h => ?_)
    exact ((isPalette_iff _).mp h).elim h5 h6

/-! ### 16-bit texels -/

/-- The index of the texel at column `iu` of the addressed row (R414). -/
def texelIndex (s : State) (iu : Nat) : Nat :=
  if isTwiddled s.tsp.tcw then detwiddle 0 (Nat.log2 s.tsp.nv) iu + detwiddle 1 (Nat.log2 s.tsp.nu) s.tsp.iv
  else s.tsp.iv * textureStride s (bit s.tsp.tcw 25) + iu

theorem scanTexel_eq (s : State) :
    scanTexel s = { s with tsp := { s.tsp with index := texelIndex s s.tsp.iu } } := by
  unfold scanTexel texelIndex
  split <;> rfl

/-- The address of a 16-bit texel (R414, R416). -/
def texelAddress (addr : Nat) (s : State) (iu : Nat) : Nat := addr * 8 + 2 * (mipOffset16 s + texelIndex s iu)

theorem readTexel16_eq (addr : Nat) (s : State) :
    readTexel16 addr s = (texel16 s.vram (texelAddress addr s s.tsp.iu),
      touchAll [texelAddress addr s s.tsp.iu, texelAddress addr s s.tsp.iu + 1] (scanTexel s)) := by
  rw [readTexel16, scanTexel_eq]
  rfl

/-- `T16` is its two bytes, the low one first (R98). -/
theorem texel16_eq_append (m : List Host.Cell) (a : Nat) :
    texel16 m a = Memory.read m ((a + 1) % 0x800000) ++ Memory.read m (a % 0x800000) := by
  have h := ofNat_append_ofNat (v := 8) (hi := (texel8 m (a + 1)).toNat) (texel8 m a).isLt
  rw [BitVec.ofNat_toNat, BitVec.ofNat_toNat, BitVec.setWidth_eq, BitVec.setWidth_eq] at h
  exact h.symm

theorem hbits_eq_extract (t : Half) (hi lo : Nat) : hbits t hi lo = (t.extractLsb' lo (hi + 1 - lo)).toNat := by
  simp [hbits, BitVec.extractLsb'_toNat, Nat.shiftRight_eq_div_pow]

/-- Five bits widened by zeros at the right (R421). -/
theorem ofNat_mul_8 (x : BitVec 5) : BitVec.ofNat 8 (x.toNat * 8) = x ++ 0#3 := by
  have h := ofNat_append_ofNat (v := 5) (w := 3) (hi := x.toNat) (lo := 0) (by decide)
  rw [BitVec.ofNat_toNat, BitVec.setWidth_eq] at h
  rw [h, Nat.zero_add, Nat.mul_comm]
  rfl

/-- Six bits widened by zeros at the right (R422). -/
theorem ofNat_mul_4 (x : BitVec 6) : BitVec.ofNat 8 (x.toNat * 4) = x ++ 0#2 := by
  have h := ofNat_append_ofNat (v := 6) (w := 2) (hi := x.toNat) (lo := 0) (by decide)
  rw [BitVec.ofNat_toNat, BitVec.setWidth_eq] at h
  rw [h, Nat.zero_add, Nat.mul_comm]
  rfl

/-- Four bits widened by themselves (R423). -/
theorem ofNat_mul_17 (x : BitVec 4) : BitVec.ofNat 8 (x.toNat * 17) = x ++ x := by
  have h := ofNat_append_ofNat (v := 4) (w := 4) (hi := x.toNat) x.isLt
  rw [BitVec.ofNat_toNat, BitVec.setWidth_eq] at h
  rw [h, show x.toNat + 2 ^ 4 * x.toNat = x.toNat * 17 by omega]

theorem decodeArgb1555_eq (t : Half) :
    decodeArgb1555 t = ⟨t.extractLsb' 10 5 ++ 0#3, t.extractLsb' 5 5 ++ 0#3, t.extractLsb' 0 5 ++ 0#3,
      if t.getLsbD 15 then 0xFF else 0⟩ := by
  have htop : hbits t 15 15 = (t.getLsbD 15).toNat := by
    rw [hbits_eq_extract, BitVec.extractLsb'_toNat, Nat.shiftRight_eq_div_pow, BitVec.getLsbD, Nat.toNat_testBit]
  rw [decodeArgb1555, htop, hbits_eq_extract, hbits_eq_extract, hbits_eq_extract, ofNat_mul_8, ofNat_mul_8, ofNat_mul_8]
  cases t.getLsbD 15 <;> rfl

theorem decodeRgb565_eq (t : Half) :
    decodeRgb565 t = ⟨t.extractLsb' 11 5 ++ 0#3, t.extractLsb' 5 6 ++ 0#2, t.extractLsb' 0 5 ++ 0#3, 0xFF⟩ := by
  rw [decodeRgb565, hbits_eq_extract, hbits_eq_extract, hbits_eq_extract, ofNat_mul_8, ofNat_mul_4, ofNat_mul_8]

theorem decodeArgb4444_eq (t : Half) :
    decodeArgb4444 t = ⟨t.extractLsb' 8 4 ++ t.extractLsb' 8 4, t.extractLsb' 4 4 ++ t.extractLsb' 4 4,
      t.extractLsb' 0 4 ++ t.extractLsb' 0 4, t.extractLsb' 12 4 ++ t.extractLsb' 12 4⟩ := by
  rw [decodeArgb4444, hbits_eq_extract, hbits_eq_extract, hbits_eq_extract, hbits_eq_extract, ofNat_mul_17,
    ofNat_mul_17, ofNat_mul_17, ofNat_mul_17]

theorem mipOffset16_eq (s : State) :
    mipOffset16 s = if s.tsp.tcw.getLsbD 31 then
      3 + (4 ^ ((s.tsp.tspWord.extractLsb' 3 3).toNat + 3 - s.tsp.level) - 1) / 3 else 0 := by
  rw [mipOffset16, texBu, bits_eq_extract, bit_eq_getLsbD]

/-- An access changes the reports only. -/
theorem touch_tsp (a : Nat) (s : State) : (touch a s).tsp = s.tsp := by rw [touch_eq]

/-- The texel of a one-read format: `c` of the half the texel's address holds. -/
theorem setTexel_readTexel16 (addr : Nat) (s : State) (c : Half → Color) :
    setTsp (fun t => { t with texel := c (readTexel16 addr s).1 }) (readTexel16 addr s).2 =
      { touch (texelAddress addr s s.tsp.iu + 1) (touch (texelAddress addr s s.tsp.iu) (scanTexel s)) with
        tsp := { (scanTexel s).tsp with
          texel := c (Memory.read s.vram ((texelAddress addr s s.tsp.iu + 1) % 0x800000) ++
            Memory.read s.vram (texelAddress addr s s.tsp.iu % 0x800000)) } } := by
  rw [readTexel16_eq, ← texel16_eq_append]
  simp only [touchAll, setTsp, touch_tsp]

/-- Settles O54. -/
theorem texelFormats : Obligations.TexelFormats := by
  unfold Obligations.TexelFormats
  intro s addr
  have haddr : addr * 8 + 2 * (mipOffset16 s + (scanTexel s).tsp.index) = texelAddress addr s s.tsp.iu := by
    rw [scanTexel_eq]
    rfl
  simp only [← mipOffset16_eq, haddr, ← decodeArgb1555_eq, ← decodeRgb565_eq, ← decodeArgb4444_eq]
  refine ⟨?_, ?_, ?_, ?_, ?_⟩
  · exact congrArg Host.Outcome.next (setTexel_readTexel16 addr s decodeArgb1555)
  · exact congrArg Host.Outcome.next (setTexel_readTexel16 addr s decodeRgb565)
  · exact congrArg Host.Outcome.next (setTexel_readTexel16 addr s decodeArgb4444)
  · exact ⟨_, congrArg Host.Outcome.next (setTexel_readTexel16 addr s fun t =>
      Config.bumpTexel t s.tsp.params (pixelX s.pix) (pixelY s.pix))⟩
  · exact (shadeFrame_scanTexel s).trans ((shadeFrame_touch _ _).trans (shadeFrame_touch _ _))

/-! ### YUV422 and palette texels -/

theorem ofNat_toNat_eq_extract16 (w : Word) : BitVec.ofNat 16 w.toNat = w.extractLsb' 0 16 := by
  apply BitVec.eq_of_toNat_eq
  simp

theorem unpackColor_eq (w : Word) :
    unpackColor w = ⟨w.extractLsb' 16 8, w.extractLsb' 8 8, w.extractLsb' 0 8, w.extractLsb' 24 8⟩ := by
  simp only [unpackColor, bits_eq_extract, BitVec.ofNat_toNat, BitVec.setWidth_eq]

/-- The low byte of a half is its chrominance, the high byte its luminance (R425). -/
theorem hbits_append (hi lo : Byte) : hbits (hi ++ lo) 7 0 = lo.toNat ∧ hbits (hi ++ lo) 15 8 = hi.toNat := by
  have hl := lo.isLt
  have hh := hi.isLt
  have hnat : (hi ++ lo).toNat = hi.toNat * 256 + lo.toNat := by
    rw [BitVec.toNat_append, ← Nat.shiftLeft_add_eq_or_of_lt hl, Nat.shiftLeft_eq]
  rw [hbits, hbits, hnat]
  omega

theorem paletteOffset_eq (s : State) (nbits : Nat) :
    paletteOffset s nbits = if s.tsp.tcw.getLsbD 31 then
      Config.palMipOffset nbits ((s.tsp.tspWord.extractLsb' 3 3).toNat + 3 - s.tsp.level) else 0 := by
  rw [paletteOffset, texBu, bits_eq_extract, bit_eq_getLsbD]

theorem textureStride_eq (s : State) (strideSel : Bool) :
    textureStride s strideSel = if strideSel then ((reg s .textControl).extractLsb' 0 5).toNat * 32
      else 8 * 2 ^ (s.tsp.tspWord.extractLsb' 3 3).toNat := by
  rw [textureStride, bits_eq_extract, texUSize_eq]

/-- The reports of accesses in order (R95). -/
def accessReports (l : List Nat) : List FrameError :=
  l.flatMap fun a => if vramSize ≤ a then [FrameError.addressOutOfRange a] else []

/-- What the palette lookup leaves in the TSP (R426). -/
def paletteTsp (s : State) (k : Nat) : TspUnit :=
  { (evalTwiddled s).tsp with
    palEntry := reg s (.paletteRam k)
    texel := decodePaletteEntry (bits (reg s .palRamCtrl) 1 0) (reg s (.paletteRam k)) }

theorem readPalette_touch (s : State) (a k : Nat) :
    readPalette k (touch a (evalTwiddled s)) =
      { s with errors := s.errors ++ accessReports [a], tsp := paletteTsp s k } := by
  rw [touch_eq, accessReports, List.flatMap_cons, List.flatMap_nil, List.append_nil]
  rfl

/-- FMT_YUV422 (R425): the pair's two texels are read in order, each reports its two bytes. -/
theorem evalYuv422_eq (addr : Nat) (s : State) :
    evalYuv422 addr s =
      (let e := s.tsp.iu / 2 * 2
       let t0 := texel16 s.vram (texelAddress addr s e)
       let t1 := texel16 s.vram (texelAddress addr s (e + 1))
       { s with
         errors := s.errors ++ accessReports [texelAddress addr s e, texelAddress addr s e + 1,
           texelAddress addr s (e + 1), texelAddress addr s (e + 1) + 1]
         tsp := { s.tsp with
           index := texelIndex s (e + 1)
           texel :=
             decodeYuv (hbits (if s.tsp.iu % 2 = 0 then t0 else t1) 15 8) (hbits t0 7 0) (hbits t1 7 0) } }) := by
  have hreports : ∀ a b c d : Nat,
      accessReports [a, b, c, d] = accessReports [a, b] ++ accessReports [c, d] := fun a b c d => by
    simp [accessReports]
  simp only [hreports, ← List.append_assoc]
  simp only [evalYuv422, readTexel16_eq, touchAll_eq, scanTexel_eq, setTexel, setTsp]
  rfl

/-- Settles O55. -/
theorem yuvAndPaletteTexels : Obligations.YuvAndPaletteTexels := by
  unfold Obligations.YuvAndPaletteTexels
  intro s sel addr n w h argb five nibble argb1555 rgb565 argb4444 pal clip side fmt twiddled index byte reports entry
    palette offset a4 a8 ae ao y yu yv
  have h1555 : ∀ e : Word, decodePaletteEntry 0 e = argb1555 (e.extractLsb' 0 16) := fun e => by
    rw [decodePaletteEntry, ofNat_toNat_eq_extract16, decodeArgb1555_eq]
  have h565 : ∀ e : Word, decodePaletteEntry 1 e = rgb565 (e.extractLsb' 0 16) := fun e => by
    rw [decodePaletteEntry, ofNat_toNat_eq_extract16, decodeRgb565_eq]
  have h4444 : ∀ e : Word, decodePaletteEntry 2 e = argb4444 (e.extractLsb' 0 16) := fun e => by
    rw [decodePaletteEntry, ofNat_toNat_eq_extract16, decodeArgb4444_eq]
  have h8888 : ∀ e : Word, decodeArgb8888 e = argb e := unpackColor_eq
  have hentry : ∀ e, decodePaletteEntry (bits (reg s .palRamCtrl) 1 0) e = entry e := by
    intro e
    rw [show bits (reg s .palRamCtrl) 1 0 = ((reg s .palRamCtrl).extractLsb' 0 2).toNat from bits_eq_extract _ 1 0]
    simp only [entry]
    generalize ((reg s .palRamCtrl).extractLsb' 0 2).toNat = code
    match code with
    | 0 => exact h1555 e
    | 1 => exact h565 e
    | 2 => exact h4444 e
    | _ + 3 => exact h8888 e
  have hpalette : ∀ a k, readPalette k (touch a (evalTwiddled s)) = { s with
      errors := s.errors ++ reports [a]
      tsp := { n with
        index := twiddled n.iu, palEntry := reg s (.paletteRam k), texel := entry (reg s (.paletteRam k)) } } := by
    intro a k
    rw [readPalette_touch, paletteTsp, hentry]
    rfl
  have ha4 : a4 = addr * 8 + paletteOffset s 4 + twiddled n.iu / 2 := by rw [paletteOffset_eq]
  have ha8 : a8 = addr * 8 + paletteOffset s 8 + twiddled n.iu := by rw [paletteOffset_eq]
  have hindex : ∀ iu, texelIndex s iu = index iu := by
    intro iu
    have htw : (n.tcw.getLsbD 26 = false ∨ fmt = 5 ∨ fmt = 6) ↔ isTwiddled n.tcw = true := by
      rw [isTwiddled_iff, isPalette_iff]
    simp only [index, htw]
    rw [texelIndex, textureStride_eq, bit_eq_getLsbD]
  have hae : texelAddress addr s (s.tsp.iu / 2 * 2) = ae := by rw [texelAddress, mipOffset16_eq, hindex]
  have hao : texelAddress addr s (s.tsp.iu / 2 * 2 + 1) = ao := by rw [texelAddress, mipOffset16_eq, hindex]
  refine ⟨?_, ?_, ?_, ?_, ?_, ?_, ?_⟩
  · exact congrArg (fun c => Host.Outcome.next { s with tsp := { n with texel := c } }) (h1555 w)
  · exact congrArg (fun c => Host.Outcome.next { s with tsp := { n with texel := c } }) (h565 w)
  · exact congrArg (fun c => Host.Outcome.next { s with tsp := { n with texel := c } }) (h4444 w)
  · exact congrArg (fun c => Host.Outcome.next { s with tsp := { n with texel := c } }) (h8888 w)
  · refine Eq.trans ?_ (congrArg Host.Outcome.next (hpalette a4 _))
    rw [ha4]
    rfl
  · refine Eq.trans ?_ (congrArg Host.Outcome.next (hpalette a8 _))
    rw [ha8]
    rfl
  · refine (congrArg Host.Outcome.next (evalYuv422_eq addr s)).trans ?_
    have htexel : ∀ a, texel16 s.vram a = byte (a + 1) ++ byte a := texel16_eq_append s.vram
    have hluma : hbits (if n.iu % 2 = 0 then byte (ae + 1) ++ byte ae else byte (ao + 1) ++ byte ao) 15 8 =
        if n.iu % 2 = 0 then (byte (ae + 1)).toNat else (byte (ao + 1)).toNat := by
      split
      · exact (hbits_append _ _).2
      · exact (hbits_append _ _).2
    have hcolour : decodeYuv (hbits (if n.iu % 2 = 0 then byte (ae + 1) ++ byte ae else byte (ao + 1) ++ byte ao) 15 8)
        (hbits (byte (ae + 1) ++ byte ae) 7 0) (hbits (byte (ao + 1) ++ byte ao) 7 0) =
          ⟨clip (y + (yv * 11).tdiv 8), clip (y - (yu * 11 + yv * 22).tdiv 32), clip (y + (yu * 110).tdiv 64),
            0xFF⟩ := by
      rw [hluma, (hbits_append _ _).1, (hbits_append _ _).1, decodeYuv]
      simp only [y]
      push_cast
      rfl
    simp only [hae, hao, htexel, hindex]
    rw [← hcolour]
    rfl

end Sys2Proof.Machine
end

section
/-! PROOF. The twiddle tables (R704, R706): the bits the loop places, and with them which bits the two table terms
hold. -/

namespace Sys2Proof.Machine

/-- Bit `m` of the index interleaved from `b` bits of `y` and `a` bits of `x`, those of `y` first: while both last they
alternate, then the rest of the longer follows. -/
def interleavedBit (a b x y m : Nat) : Bool :=
  if m < 2 * min a b then (if m % 2 = 0 then y.testBit (m / 2) else x.testBit (m / 2))
  else decide (m < a + b) && if a < b then y.testBit (m - a) else x.testBit (m - b)

theorem interleavedBit_zero_zero (x y m : Nat) : interleavedBit 0 0 x y m = false := by
  simp [interleavedBit]

theorem interleavedBit_zero_succ (b x y m : Nat) :
    interleavedBit 0 (b + 1) x y m = if m = 0 then y.testBit 0 else interleavedBit 0 b x (y / 2) (m - 1) := by
  cases m with
  | zero => simp [interleavedBit]
  | succ m =>
    rcases Nat.eq_zero_or_pos b with rfl | hb
    · simp [interleavedBit]
    · simp [interleavedBit, hb, Nat.testBit_succ]

theorem interleavedBit_succ_zero (a x y m : Nat) :
    interleavedBit (a + 1) 0 x y m = if m = 0 then x.testBit 0 else interleavedBit a 0 (x / 2) y (m - 1) := by
  cases m with
  | zero => simp [interleavedBit]
  | succ m => simp [interleavedBit, Nat.testBit_succ]

theorem interleavedBit_succ_succ (a b x y m : Nat) :
    interleavedBit (a + 1) (b + 1) x y m = if m = 0 then y.testBit 0
      else if m - 1 = 0 then x.testBit 0 else interleavedBit a b (x / 2) (y / 2) (m - 1 - 1) := by
  match m with
  | 0 => simp [interleavedBit]
  | 1 =>
    have hmin : 1 < 2 * min (a + 1) (b + 1) := by omega
    rw [interleavedBit, if_pos hmin]
    simp
  | m + 2 =>
    have hmin : m + 2 < 2 * min (a + 1) (b + 1) ↔ m < 2 * min a b := by omega
    have hsum : m + 2 < a + 1 + (b + 1) ↔ m < a + b := by omega
    simp only [interleavedBit, hmin, hsum, Nat.add_mod_right, Nat.add_lt_add_iff_right,
      Nat.add_div_right m Nat.two_pos, Nat.testBit_succ, show m + 2 ≠ 0 by omega,
      show m + 2 - 1 ≠ 0 by omega, show m + 2 - 1 - 1 = m by omega, ↓reduceIte]
    by_cases hm : m < 2 * min a b
    · simp only [hm, ↓reduceIte]
    · by_cases hab : a < b
      · simp only [hm, hab, ↓reduceIte, show m + 2 - (a + 1) = m - a + 1 by omega, Nat.testBit_succ]
      · simp only [hm, hab, ↓reduceIte, show m + 2 - (b + 1) = m - b + 1 by omega, Nat.testBit_succ]

/-- A bit placed at `sh` below the bits `r` from `sh + 1` on. -/
theorem testBit_or_place (rv x sh k : Nat) (r : Nat → Bool) :
    ((rv ||| (x % 2) <<< sh).testBit k || (decide (sh + 1 ≤ k) && r (k - (sh + 1)))) =
      (rv.testBit k || (decide (sh ≤ k) && if k - sh = 0 then x.testBit 0 else r (k - sh - 1))) := by
  rw [Nat.testBit_or, Nat.testBit_shiftLeft, Bool.or_assoc]
  congr 1
  rcases Nat.lt_trichotomy k sh with h | rfl | h
  · simp [show ¬ sh ≤ k by omega, show ¬ sh + 1 ≤ k by omega]
  · simp
  · have hk : (x % 2).testBit (k - sh) = false :=
      Nat.testBit_lt_two_pow (Nat.lt_of_lt_of_le (Nat.mod_lt x Nat.two_pos) (Nat.le_self_pow (by omega) 2))
    rw [hk, if_neg (by omega), Nat.sub_sub]
    simp [h.le, Nat.succ_le_of_lt h]

/-- The loop places the interleaved bits from `sh` on (R704). -/
theorem testBit_twiddleLoop (fuel a b x y sh rv k : Nat) (ha : a < fuel) (hb : b < fuel) :
    (twiddleLoop fuel x y (2 ^ a / 2) (2 ^ b / 2) sh rv).testBit k =
      (rv.testBit k || (decide (sh ≤ k) && interleavedBit a b x y (k - sh))) := by
  induction fuel generalizing a b x y sh rv with
  | zero => exact absurd ha (Nat.not_lt_zero a)
  | succ fuel ih =>
    have hpow : ∀ n, 2 ^ (n + 1) / 2 = 2 ^ n := fun n => by rw [Nat.pow_succ, Nat.mul_div_cancel _ Nat.two_pos]
    have hne : ∀ n, 2 ^ n ≠ 0 := fun n => (Nat.two_pow_pos n).ne'
    match a, b with
    | 0, 0 => simp [twiddleLoop, interleavedBit_zero_zero]
    | 0, b + 1 =>
      rw [twiddleLoop, hpow, interleavedBit_zero_succ, ← testBit_or_place]
      simp only [hne, ↓reduceIte, and_false, show 2 ^ 0 / 2 = 0 from rfl, Nat.zero_div]
      exact ih 0 b x (y / 2) (sh + 1) _ (by omega) (by omega)
    | a + 1, 0 =>
      rw [twiddleLoop, hpow, interleavedBit_succ_zero, ← testBit_or_place]
      simp only [hne, ↓reduceIte, false_and, show 2 ^ 0 / 2 = 0 from rfl, Nat.zero_div]
      exact ih a 0 (x / 2) y (sh + 1) _ (by omega) (by omega)
    | a + 1, b + 1 =>
      rw [twiddleLoop, hpow, hpow, interleavedBit_succ_succ]
      refine Eq.trans ?_ (testBit_or_place rv y sh k
        fun m => if m = 0 then x.testBit 0 else interleavedBit a b (x / 2) (y / 2) (m - 1))
      refine Eq.trans ?_ (testBit_or_place _ x (sh + 1) k (interleavedBit a b (x / 2) (y / 2)))
      simp only [hne, ↓reduceIte, false_and]
      exact ih a b (x / 2) (y / 2) (sh + 1 + 1) _ (by omega) (by omega)

/-- The bits of the interleaved index (R704). -/
theorem testBit_twiddleSlow (x y a b m : Nat) :
    (twiddleSlow x y (2 ^ a) (2 ^ b)).testBit m = interleavedBit a b x y m := by
  rw [twiddleSlow, Nat.log2_two_pow, Nat.log2_two_pow, testBit_twiddleLoop _ a b _ _ _ _ _ (by omega) (by omega)]
  simp

theorem testBit_of_lt_two_pow {i n k : Nat} (h : i < 2 ^ n) (hk : n ≤ k) : i.testBit k = false :=
  Nat.testBit_lt_two_pow (Nat.lt_of_lt_of_le h (Nat.pow_le_pow_right Nat.two_pos hk))

/-- A bound on the position is idle where the bit beyond it is 0. -/
theorem testBit_below {k n : Nat} {b : Bool} (h : n ≤ k → b = false) : (decide (k < n) && b) = b := by
  rcases Nat.lt_or_ge k n with hk | hk
  · simp [hk]
  · simp [h hk]

/-- Which bits the U term holds (R706). -/
theorem testBit_detwiddle_u {bu bv i : Nat} (hu : bu ≤ 10) (hv : bv ≤ 10) (hi : i < 2 ^ bu) (k : Nat) :
    (detwiddle 0 bv i).testBit k =
      if k < 2 * min bu bv then (if k % 2 = 0 then false else i.testBit (k / 2))
      else (if bu < bv then false else i.testBit (k - min bu bv)) := by
  have hzero := fun {m} => testBit_of_lt_two_pow (k := m) hi
  rw [detwiddle, if_pos rfl, show 1024 = 2 ^ 10 from rfl, testBit_twiddleSlow, interleavedBit, Nat.zero_testBit,
    if_neg (show ¬ 10 < bv by omega)]
  by_cases hk : k < 2 * min bu bv
  · rw [if_pos hk, if_pos (by omega)]
  rw [if_neg hk]
  by_cases hlt : bu < bv
  · rw [if_pos hlt]
    split
    · split
      · rfl
      · exact hzero (by omega)
    · rw [hzero (by omega), Bool.and_false]
  · rw [if_neg hlt, if_neg (by omega), show min bu bv = bv by omega]
    exact testBit_below fun _ => hzero (by omega)

/-- Which bits the V term holds (R706). -/
theorem testBit_detwiddle_v {bu bv j : Nat} (hu : bu ≤ 10) (hv : bv ≤ 10) (hj : j < 2 ^ bv) (k : Nat) :
    (detwiddle 1 bu j).testBit k =
      if k < 2 * min bu bv then (if k % 2 = 0 then j.testBit (k / 2) else false)
      else (if bu < bv then j.testBit (k - min bu bv) else false) := by
  have hzero := fun {m} => testBit_of_lt_two_pow (k := m) hj
  rw [detwiddle, if_neg Nat.one_ne_zero, show 1024 = 2 ^ 10 from rfl, testBit_twiddleSlow, interleavedBit,
    Nat.zero_testBit]
  by_cases hk : k < 2 * min bu bv
  · rw [if_pos hk, if_pos (by omega)]
  rw [if_neg hk]
  by_cases hlt : bu < bv
  · rw [if_pos hlt, if_neg (by omega), if_pos (by omega), show min bu bv = bu by omega]
    exact testBit_below fun _ => hzero (by omega)
  · rw [if_neg hlt]
    split
    · split
      · exact hzero (by omega)
      · rfl
    · split
      · rw [hzero (by omega), Bool.and_false]
      · rw [Nat.zero_testBit, Bool.and_false]

/-- The two terms share no bit (R706). -/
theorem detwiddle_and {bu bv i j : Nat} (hu : bu ≤ 10) (hv : bv ≤ 10) (hi : i < 2 ^ bu) (hj : j < 2 ^ bv) :
    detwiddle 0 bv i &&& detwiddle 1 bu j = 0 := by
  apply Nat.eq_of_testBit_eq
  intro k
  rw [Nat.testBit_and, testBit_detwiddle_u hu hv hi, testBit_detwiddle_v hu hv hj, Nat.zero_testBit]
  split <;> split <;> simp

/-- Every bit of the interleaved index is one term's (R706). -/
theorem testBit_detwiddle_or {bu bv i j : Nat} (hu : bu ≤ 10) (hv : bv ≤ 10) (hi : i < 2 ^ bu) (hj : j < 2 ^ bv)
    (k : Nat) : (detwiddle 0 bv i ||| detwiddle 1 bu j).testBit k =
      if k < 2 * min bu bv then (if k % 2 = 0 then j.testBit (k / 2) else i.testBit (k / 2))
      else (if bu < bv then j.testBit (k - min bu bv) else i.testBit (k - min bu bv)) := by
  rw [Nat.testBit_or, testBit_detwiddle_u hu hv hi, testBit_detwiddle_v hu hv hj]
  split <;> split <;> simp

/-- Numbers that share no bit add up without a carry. -/
theorem add_eq_or_of_and_eq_zero {a b : Nat} (h : a &&& b = 0) : a + b = a ||| b := by
  have hlt : a + b < 2 ^ (a + b) := Nat.lt_two_pow_self
  have htoNat : ∀ n ≤ a + b, (BitVec.ofNat (a + b) n).toNat = n := fun n hn => by
    rw [BitVec.toNat_ofNat, Nat.mod_eq_of_lt (by omega)]
  have hx := htoNat a (by omega)
  have hy := htoNat b (by omega)
  have hand : BitVec.ofNat (a + b) a &&& BitVec.ofNat (a + b) b = 0#(a + b) := by
    apply BitVec.eq_of_toNat_eq
    rw [BitVec.toNat_and, hx, hy, h, BitVec.toNat_zero]
  have hsum := BitVec.toNat_add_of_and_eq_zero hand
  rw [BitVec.add_eq_or_of_and_eq_zero _ _ hand, BitVec.toNat_or, hx, hy] at hsum
  exact hsum.symm

/-- Settles O53. -/
theorem twiddleTables : Obligations.TwiddleTables := by
  intro bu bv i j hu hv hi hj
  have hand := detwiddle_and hu hv hi hj
  have hbit := testBit_detwiddle_or hu hv hi hj
  rw [add_eq_or_of_and_eq_zero hand]
  refine ⟨Nat.eq_of_testBit_eq fun k => ?_, hand, hbit⟩
  rw [hbit, testBit_twiddleSlow, interleavedBit]
  by_cases hk : k < 2 * min bu bv
  · rw [if_pos hk, if_pos hk]
  rw [if_neg hk, if_neg hk]
  by_cases hlt : bu < bv
  · rw [if_pos hlt, if_pos hlt, show min bu bv = bu by omega]
    exact (testBit_below fun _ => testBit_of_lt_two_pow hj (by omega)).symm
  · rw [if_neg hlt, if_neg hlt, show min bu bv = bv by omega]
    exact (testBit_below fun _ => testBit_of_lt_two_pow hi (by omega)).symm

end Sys2Proof.Machine
end

section
/-! PROOF. R331: the fragment an auto-sort iteration selects does not depend on the order of arrival. -/

namespace Sys2Proof.Machine

/-- A fragment, a depth and a tag, lies before another in the order of the peel (R326). -/
def peelsBefore (f g : Word × Word) : Bool :=
  f32Lt f.1 g.1 || (f32Eq f.1 g.1 && decide (g.2.toNat < f.2.toNat))

theorem peelsBefore_iff {f g : Word × Word} (hf : f32NaN f.1 = false) :
    peelsBefore f g = true ↔ f32NaN g.1 = false ∧
      (f32Key f.1 < f32Key g.1 ∨ f32Key f.1 = f32Key g.1 ∧ g.2.toNat < f.2.toNat) := by
  simp only [peelsBefore, Bool.or_eq_true, Bool.and_eq_true, f32Lt_iff, f32Eq_iff, decide_eq_true_eq, hf, true_and]
  tauto

/-- Of two fragments that differ in depth or tag exactly one lies before the other. -/
theorem peelsBefore_total {f g : Word × Word} (hf : f32NaN f.1 = false) (hg : f32NaN g.1 = false)
    (hne : ¬ (f32Eq f.1 g.1 = true ∧ f.2 = g.2)) : peelsBefore g f = !peelsBefore f g := by
  have htag : f.2 = g.2 ↔ f.2.toNat = g.2.toNat := BitVec.toNat_inj.symm
  rw [f32Eq_iff, htag] at hne
  rw [Bool.eq_iff_iff, Bool.not_eq_true', ← Bool.not_eq_true, peelsBefore_iff hf, peelsBefore_iff hg]
  simp only [hf, hg, true_and] at hne ⊢
  omega

theorem peelsBefore_trans {f g h : Word × Word} (hf : f32NaN f.1 = false) (hfg : peelsBefore f g = true)
    (hgh : peelsBefore g h = true) : peelsBefore f h = true := by
  obtain ⟨hg, hfg⟩ := (peelsBefore_iff hf).mp hfg
  rw [peelsBefore_iff hg] at hgh
  rw [peelsBefore_iff hf]
  exact ⟨hgh.1, by omega⟩

/-- A fragment passes both peel tests at a pixel (R326). -/
def peels (f : Word × Word) (p : Pixel) : Bool := peelAfter f.1 f.2 p && peelBefore f.1 f.2 p

/-- A fragment taken at a pixel (R326). -/
def takeFragment (f : Word × Word) (i : Fin 1024) (s : State) : State :=
  { updatePixel i (fun p => clearWritten { p with depthTest := f.1, tag := f.2 }) s with moreToDraw := true }

theorem pixelAutosort_eq (f : Word × Word) (i : Fin 1024) (s : State) :
    pixelAutosort f.2 f.1 i s = if peels f (pixel s i) then takeFragment f i s else s := rfl

theorem peels_iff (f : Word × Word) (p : Pixel) :
    peels f p = (peelAfter f.1 f.2 p && peelsBefore f (p.depthTest, p.tag)) := rfl

/-- At a pixel that took `g` a fragment passes where it passed the reference and lies before `g`. -/
theorem peels_takeFragment (f g : Word × Word) (i : Fin 1024) (s : State) :
    peels f (pixel (takeFragment g i s) i) = (peelAfter f.1 f.2 (pixel s i) && peelsBefore f g) := by
  have hpix : pixel (takeFragment g i s) i = clearWritten { pixel s i with depthTest := g.1, tag := g.2 } :=
    pixel_updatePixel_self i (fun p => clearWritten { p with depthTest := g.1, tag := g.2 }) s
  rw [peels_iff, hpix]
  rfl

/-- The fragment taken last is the one that counts. -/
theorem takeFragment_takeFragment (f g : Word × Word) (i : Fin 1024) (s : State) :
    takeFragment f i (takeFragment g i s) = takeFragment f i s := by
  have h := TagLaw.updatePixel_twice i (fun p => clearWritten { p with depthTest := g.1, tag := g.2 })
    (fun p => clearWritten { p with depthTest := f.1, tag := f.2 }) s
  have hclear : ∀ b : Byte, b &&& 0xFE &&& 0xFE = b &&& 0xFE := fun b => by rw [BitVec.and_assoc, BitVec.and_self]
  simp only [clearWritten, hclear] at h
  exact congrArg (fun u : State => { u with moreToDraw := true }) h

/-- A fragment that fails at a pixel still fails where a fragment that passes was taken. -/
theorem peels_takeFragment_of_not {f g : Word × Word} (hf : f32NaN f.1 = false) {i : Fin 1024} {s : State}
    (hpf : peels f (pixel s i) = false) (hpg : peels g (pixel s i) = true) :
    peels f (pixel (takeFragment g i s) i) = false := by
  rw [peels_iff, Bool.and_eq_true] at hpg
  rw [peels_iff, Bool.and_eq_false_iff] at hpf
  rw [peels_takeFragment, Bool.and_eq_false_iff]
  refine hpf.imp_right fun hbefore => Bool.eq_false_of_not_eq_true fun hfg => ?_
  exact Bool.false_ne_true (hbefore.symm.trans (peelsBefore_trans hf hfg hpg.2))

/-- Two fragments that differ in depth or tag can arrive in either order. -/
theorem pixelAutosort_comm {f g : Word × Word} (hf : f32NaN f.1 = false) (hg : f32NaN g.1 = false)
    (hne : ¬ (f32Eq f.1 g.1 = true ∧ f.2 = g.2)) (i : Fin 1024) (s : State) :
    pixelAutosort g.2 g.1 i (pixelAutosort f.2 f.1 i s) = pixelAutosort f.2 f.1 i (pixelAutosort g.2 g.1 i s) := by
  simp only [pixelAutosort_eq]
  cases hpf : peels f (pixel s i) <;> cases hpg : peels g (pixel s i)
  · simp only [Bool.false_eq_true, ↓reduceIte, hpf, hpg]
  · simp only [Bool.false_eq_true, ↓reduceIte, hpg, peels_takeFragment_of_not hf hpf hpg]
  · simp only [Bool.false_eq_true, ↓reduceIte, hpf, peels_takeFragment_of_not hg hpg hpf]
  · rw [peels_iff, Bool.and_eq_true] at hpf hpg
    simp only [↓reduceIte, peels_takeFragment, hpf.1, hpg.1, Bool.true_and, takeFragment_takeFragment,
      peelsBefore_total hf hg hne]
    cases peelsBefore f g <;> rfl

/-- Two fragments are one, or differ in depth or tag: the premise of R331 for any two of the list. -/
def DifferUnlessSame (f g : Word × Word) : Prop := f = g ∨ ¬ (f32Eq f.1 g.1 = true ∧ f.2 = g.2)

/-- Settles O39: the fragments commute pairwise. -/
theorem autosortOrderIndependent : Obligations.AutosortOrderIndependent := by
  intro l l' i s hperm hnan hpair
  refine hperm.foldl_eq' (fun f hf g hg u => ?_) s
  by_cases hfg : f = g
  · rw [hfg]
  have hto : l.Pairwise DifferUnlessSame := List.Pairwise.imp (fun h => Or.inr h) hpair
  have hfrom : l.Pairwise (flip DifferUnlessSame) :=
    List.Pairwise.imp (fun h => Or.inr fun k => h ⟨(f32Eq_comm _ _).trans k.1, k.2.symm⟩) hpair
  have hself : ∀ f ∈ l, DifferUnlessSame f f := fun f _ => Or.inl rfl
  have hdiffer := List.Pairwise.forall_of_forall_of_flip hself hto hfrom hf hg
  exact pixelAutosort_comm (hnan f hf) (hnan g hg) (hdiffer.resolve_left hfg) i u

end Sys2Proof.Machine
end

section
/-! PROOF. The rasterizer: primitives skipped (R301, R304, R305), what a fragment does in each mode (R321 to R328), and
the pixels an opaque primitive fills (R307 to R311, R320). -/

namespace Sys2Proof.Machine

/-! ### Setup of a primitive -/

/-- A primitive of area 0 is reported and skipped (R304). -/
theorem rasterizePlane_degenerate {p : DrawParameters} (covers : Rat → Rat → Bool) {s : State}
    (h : (planeOf p.v0 p.v1 p.v2).area2 = 0) :
    rasterizePlane p covers s = .next (report (.numericDomain p.tag) s) := if_pos h

/-- A culled primitive is skipped (R305). -/
theorem rasterizePlane_culled {p : DrawParameters} (covers : Rat → Rat → Bool) {s : State}
    (h : (planeOf p.v0 p.v1 p.v2).area2 ≠ 0)
    (hc : culls (bits p.hdr.isp 28 27) (planeOf p.v0 p.v1 p.v2).area2 (reg s .fpuCullVal) = true) :
    rasterizePlane p covers s = .next { s with
      isp := { s.isp with area2 := (planeOf p.v0 p.v1 p.v2).area2, culled := true } } := by
  rw [← hc]
  exact (if_neg h).trans (if_pos hc)

/-- The state a primitive's pixels are visited from (R320): the ISP holds its area, the cache has taken it. -/
def setupState (p : DrawParameters) (s : State) : State :=
  { s with
    isp := { s.isp with area2 := (planeOf p.v0 p.v1 p.v2).area2, culled := false }
    fpuCache := if s.mode = .modifier then s.fpuCache else (p.tag, p) :: s.fpuCache.filter fun e => e.1 != p.tag }

theorem drawFrame_setupState (p : DrawParameters) (s : State) : DrawFrame s (setupState p s) :=
  ⟨rfl, rfl, rfl, rfl, rfl, rfl, rfl, rfl, rfl, rfl, rfl, rfl, rfl, rfl, rfl, List.prefix_refl _⟩

theorem setupState_eq (p : DrawParameters) (s : State) :
    setupState p s =
      (let s1 := { s with isp := { s.isp with area2 := (planeOf p.v0 p.v1 p.v2).area2, culled := false } }
       if s1.mode = .modifier then s1 else cacheInsert p s1) := by
  unfold setupState
  dsimp only
  split <;> rfl

/-- A primitive that is not skipped is drawn (R320). -/
theorem rasterizePlane_drawn {p : DrawParameters} (covers : Rat → Rat → Bool) {s : State}
    (h : (planeOf p.v0 p.v1 p.v2).area2 ≠ 0)
    (hc : culls (bits p.hdr.isp 28 27) (planeOf p.v0 p.v1 p.v2).area2 (reg s .fpuCullVal) = false) :
    rasterizePlane p covers s =
      forEach (visitPixel p covers (planeOf p.v0 p.v1 p.v2)) allPixels (setupState p s) := by
  have hcull : evalCull (bits p.hdr.isp 28 27)
      { s with isp := { s.isp with area2 := (planeOf p.v0 p.v1 p.v2).area2 } } =
      { s with isp := { s.isp with area2 := (planeOf p.v0 p.v1 p.v2).area2, culled := false } } := by
    rw [← hc]
    rfl
  unfold rasterizePlane
  dsimp only
  rw [if_neg h, hcull, if_neg Bool.false_ne_true, ← setupState_eq]

theorem rasterizeTriangle_finite {hdr : Header} {v0 v1 v2 : Vertex} (h0 : vertexFinite v0 = true)
    (h1 : vertexFinite v1 = true) (h2 : vertexFinite v2 = true) (tag : Word) (s : State) :
    rasterizeTriangle hdr v0 v1 v2 tag s =
      rasterizePlane ⟨hdr, v0, v1, v2, none, tag⟩ (planeOf v0 v1 v2).covers s := by
  rw [rasterizeTriangle, h0, h1, h2]
  rfl

theorem rasterizeQuad_finite {hdr : Header} {v0 v1 v2 v3 : Vertex} (h0 : vertexFinite v0 = true)
    (h1 : vertexFinite v1 = true) (h2 : vertexFinite v2 = true) (h3 : vertexFinite v3 = true) (tag : Word) (s : State) :
    rasterizeQuad hdr v0 v1 v2 v3 tag s =
      rasterizePlane ⟨hdr, v0, v1, v2, some v3, tag⟩ (quadCovers v0 v1 v2 v3) s := by
  rw [rasterizeQuad, h0, h1, h2, h3]
  rfl

/-- A triangle that is not finite, or of area 0, is reported and skipped (R301, R304). -/
theorem rasterizeTriangle_skipped {hdr : Header} {v0 v1 v2 : Vertex} {tag : Word} {s : State}
    (h : (vertexFinite v0 = true ∧ vertexFinite v1 = true ∧ vertexFinite v2 = true) →
      (planeOf v0 v1 v2).area2 = 0) :
    rasterizeTriangle hdr v0 v1 v2 tag s = .next (report (.numericDomain tag) s) := by
  by_cases hf : (vertexFinite v0 && vertexFinite v1 && vertexFinite v2) = true
  · refine (if_pos hf).trans (rasterizePlane_degenerate _ ?_)
    simp only [Bool.and_eq_true, and_assoc] at hf
    exact h hf
  · exact if_neg hf

/-- A quad that is not finite, or whose plane has area 0, is reported and skipped (R301, R304, R310). -/
theorem rasterizeQuad_skipped {hdr : Header} {v0 v1 v2 v3 : Vertex} {tag : Word} {s : State}
    (h : (vertexFinite v0 = true ∧ vertexFinite v1 = true ∧ vertexFinite v2 = true ∧ vertexFinite v3 = true) →
      (planeOf v0 v1 v2).area2 = 0) :
    rasterizeQuad hdr v0 v1 v2 v3 tag s = .next (report (.numericDomain tag) s) := by
  by_cases hf : (vertexFinite v0 && vertexFinite v1 && vertexFinite v2 && vertexFinite v3) = true
  · refine (if_pos hf).trans (rasterizePlane_degenerate _ ?_)
    simp only [Bool.and_eq_true, and_assoc] at hf
    exact h hf
  · exact if_neg hf

/-- Settles O34. -/
theorem skippedPrimitives : Obligations.SkippedPrimitives := by
  intro hdr v0 v1 v2 v3 tag s
  refine ⟨fun h => rasterizeTriangle_skipped ?_, fun h => rasterizeQuad_skipped ?_,
    fun h => ⟨rasterizeTriangle_skipped fun _ => h, rasterizeQuad_skipped fun _ => h⟩,
    fun h0 h1 h2 h3 harea hcull =>
      ⟨⟨_, (rasterizeTriangle_finite h0 h1 h2 tag s).trans (rasterizePlane_culled _ harea hcull)⟩,
        ⟨_, (rasterizeQuad_finite h0 h1 h2 h3 tag s).trans (rasterizePlane_culled _ harea hcull)⟩⟩⟩
  · rintro ⟨h0, h1, h2⟩
    simp [h0, h1, h2] at h
  · rintro ⟨h0, h1, h2, h3⟩
    simp [h0, h1, h2, h3] at h

/-! ### One fragment -/

/-- A fragment that may change its pixel: if `cond`, the pixel becomes `f` of it and `peel` is added to
`more_to_draw`; the units move on either way. -/
def fragmentState (s : State) (n : Fin 1024) (u : IspUnit) (i : Fin 1024) (f : Pixel → Pixel) (cond peel : Bool) :
    State :=
  if cond then { updatePixel i f { s with pix := n, isp := u } with moreToDraw := s.moreToDraw || peel }
  else { s with pix := n, isp := u }

theorem fragmentState_effect (s : State) (n : Fin 1024) (u : IspUnit) (i : Fin 1024) (f : Pixel → Pixel)
    (cond peel : Bool) :
    DrawFrame s (fragmentState s n u i f cond peel) ∧
      (fragmentState s n u i f cond peel).fpuCache = s.fpuCache ∧
      (fragmentState s n u i f cond peel).andPhase = s.andPhase ∧
      OtherPixels i s (fragmentState s n u i f cond peel) ∧
      pixel (fragmentState s n u i f cond peel) i = (if cond then f (pixel s i) else pixel s i) ∧
      (fragmentState s n u i f cond peel).moreToDraw = (s.moreToDraw || (cond && peel)) := by
  cases cond with
  | false =>
    exact ⟨(quietFrame_pix n s).toDrawFrame.trans (drawFrame_isp u _), rfl, rfl, fun _ _ => rfl, rfl,
      (Bool.or_false _).symm⟩
  | true =>
    exact ⟨⟨rfl, rfl, rfl, rfl, rfl, rfl, rfl, rfl, rfl, rfl, rfl, rfl, rfl, rfl, rfl, List.prefix_refl _⟩, rfl, rfl,
      fun j hj => pixel_updatePixel_other i j f s hj, pixel_updatePixel_self i f s, rfl⟩

/-- What the depth test leaves in the ISP (R325). -/
def testedIsp (isp zf : Word) (i : Fin 1024) (s : State) : IspUnit :=
  { s.isp with zf := zf, pass := depthPasses (bits isp 31 29) zf (pixel s i).depthTest }

theorem testFragment_eq (isp zf : Word) (i : Fin 1024) (s : State) :
    testFragment isp zf i s = { s with pix := i, isp := testedIsp isp zf i s } := rfl

theorem pixelOpaque_eq (isp tag zf : Word) (i : Fin 1024) (s : State) :
    pixelOpaque isp tag zf i s = fragmentState s i (testedIsp isp zf i s) i (writeFragment isp tag zf)
      (depthPasses (bits isp 31 29) zf (pixel s i).depthTest) false := by
  rw [fragmentState, Bool.or_false]
  rfl

theorem pixelPass0_eq (isp tag zf : Word) (i : Fin 1024) (s : State) :
    pixelPass0 isp tag zf i s = fragmentState s i (testedIsp isp zf i s) i (writeFragment isp tag zf)
      (depthPasses (bits isp 31 29) zf (pixel s i).depthTest && f32Lt zf (pixel s i).depthRef) true := by
  rw [fragmentState, Bool.or_true]
  rfl

theorem pixelPassN_eq (isp tag zf : Word) (i : Fin 1024) (s : State) :
    pixelPassN isp tag zf i s = fragmentState s i (testedIsp isp zf i s) i (writeFragment isp tag zf)
      (depthPasses (bits isp 31 29) zf (pixel s i).depthTest && f32Lt zf (pixel s i).depthRef &&
        f32Lt (pixel s i).depthPrev zf) true := by
  rw [fragmentState, Bool.or_true]
  rfl

theorem pixelAutosort_eq_fragmentState (tag zf : Word) (i : Fin 1024) (s : State) :
    pixelAutosort tag zf i s = fragmentState s s.pix s.isp i
      (fun p => clearWritten { p with depthTest := zf, tag := tag })
      (peelAfter zf tag (pixel s i) && peelBefore zf tag (pixel s i)) true := by
  rw [fragmentState, Bool.or_true]
  rfl

theorem pixelModifier_eq (zf : Word) (i : Fin 1024) (s : State) :
    pixelModifier zf i s = fragmentState s s.pix s.isp i (fun p => { p with stencil := p.stencil ||| 0x01 })
      (f32Lt (pixel s i).depthTest zf) false := by
  rw [fragmentState, Bool.or_false]
  rfl

theorem pixelRule_opaqueMode {s : State} (h : s.mode = .opaqueMode) (p : DrawParameters) (zf : Word) (i : Fin 1024) :
    pixelRule p zf i s = .next (pixelOpaque p.hdr.isp p.tag zf i s) := by
  rw [pixelRule, h]

/-- Settles O37. -/
theorem pixelRulesOfTheModes : Obligations.PixelRulesOfTheModes := by
  intro p zf i s
  have hcode : (p.hdr.isp.extractLsb' 29 3).toNat = bits p.hdr.isp 31 29 := (bits_eq_extract _ 31 29).symm
  simp only [← bit_eq_getLsbD, hcode]
  refine ⟨fun hm => ?_, fun hm => ?_, fun hm => ?_, fun hm => ?_, fun hm => ?_, fun hm => ?_⟩
  · rw [pixelRule_opaqueMode hm, pixelOpaque_eq]
    exact ⟨_, rfl, fragmentState_effect ..⟩
  · have hrule : pixelRule p zf i s = .next (pixelPass0 p.hdr.isp p.tag zf i s) := by rw [pixelRule, hm]
    rw [hrule, pixelPass0_eq]
    exact ⟨_, rfl, fragmentState_effect ..⟩
  · have hrule : pixelRule p zf i s = .next (pixelPassN p.hdr.isp p.tag zf i s) := by rw [pixelRule, hm]
    rw [hrule, pixelPassN_eq]
    exact ⟨_, rfl, fragmentState_effect ..⟩
  · have hrule : pixelRule p zf i s = .next (pixelAutosort p.tag zf i s) := by rw [pixelRule, hm]
    rw [hrule, pixelAutosort_eq_fragmentState]
    exact ⟨_, rfl, fragmentState_effect ..⟩
  · have hrule : pixelRule p zf i s = pixelPresort p zf i s := by rw [pixelRule, hm]
    rw [hrule]
    rfl
  · have hrule : pixelRule p zf i s = .next (pixelModifier zf i s) := by rw [pixelRule, hm]
    rw [hrule, pixelModifier_eq]
    exact ⟨_, rfl, fragmentState_effect ..⟩

/-! ### All the pixels of a primitive -/

/-- Operations that agree on the states of an invariant the one keeps do the same one after the other. -/
theorem forEach_congr {α : Type} {f g : α → State → Res} (P : State → Prop) (hfg : ∀ a s, P s → f a s = g a s)
    (hg : ∀ a s t, P s → g a s = .next t → P t) (l : List α) {s : State} (hs : P s) :
    forEach f l s = forEach g l s := by
  induction l generalizing s with
  | nil => rfl
  | cons a l ih =>
    rw [forEach_cons, forEach_cons, hfg a s hs]
    cases h : g a s with
    | next t => exact ih (hg a s t hs h)
    | fault r => rfl
    | refused r => rfl

/-- Drawing leaves the sample points where they are. -/
theorem DrawFrame.sampleX_eq {s t : State} (h : DrawFrame s t) (i : Fin 1024) : sampleX t i = sampleX s i := by
  rw [sampleX, sampleX, screenX, screenX, halfOffset, halfOffset, h.tilex, h.reg_eq]

theorem DrawFrame.sampleY_eq {s t : State} (h : DrawFrame s t) (i : Fin 1024) : sampleY t i = sampleY s i := by
  rw [sampleY, sampleY, screenY, screenY, halfOffset, halfOffset, h.tiley, h.reg_eq]

/-- One pixel of a primitive with the sample points taken beforehand. -/
def visitAt (p : DrawParameters) (covered : Fin 1024 → Bool) (zf : Fin 1024 → Word) (i : Fin 1024) (s : State) : Res :=
  if covered i then pixelRule p (zf i) i s else .next s

theorem drawFrame_visitAt {p : DrawParameters} {covered : Fin 1024 → Bool} {zf : Fin 1024 → Word} {i : Fin 1024}
    {s t : State} (h : visitAt p covered zf i s = .next t) : DrawFrame s t := by
  unfold visitAt at h
  split at h
  · exact (drawLaw_frame s.mode).pixelRule rfl h
  · cases h
    exact DrawFrame.refl s

/-- The pixels of a primitive are visited at the sample points of the state it found (R306, R307). -/
theorem forEach_visitPixel (p : DrawParameters) (covers : Rat → Rat → Bool) (plane : Plane) (s : State) {u : State}
    (hu : DrawFrame s u) (l : List (Fin 1024)) :
    forEach (visitPixel p covers plane) l u =
      forEach (visitAt p (fun i => covers (sampleX s i) (sampleY s i))
        fun i => plane.depth (sampleX s i) (sampleY s i)) l u := by
  refine forEach_congr (DrawFrame s) (fun i v hv => ?_) (fun i v w hv h => hv.trans (drawFrame_visitAt h)) l hu
  rw [visitPixel, visitAt, hv.sampleX_eq, hv.sampleY_eq]

theorem sampleX_eq (s : State) (i : Fin 1024) :
    sampleX s i = ((32 * s.tilex + i.val % 32 : Nat) : Rat) + if (reg s .halfOffset).getLsbD 0 then 1 / 2 else 0 := by
  rw [sampleX, halfOffset, bit_eq_getLsbD, mkRat_one_two]
  rfl

theorem sampleY_eq (s : State) (i : Fin 1024) :
    sampleY s i = ((32 * s.tiley + i.val / 32 : Nat) : Rat) + if (reg s .halfOffset).getLsbD 0 then 1 / 2 else 0 := by
  rw [sampleY, halfOffset, bit_eq_getLsbD, mkRat_one_two]
  rfl

/-- What opaque drawing leaves alone besides the driver's state. -/
structure PaintFrame (s t : State) : Prop extends DrawFrame s t where
  errors_eq : t.errors = s.errors
  moreToDraw : t.moreToDraw = s.moreToDraw
  andPhase : t.andPhase = s.andPhase
  fpuCache : t.fpuCache = s.fpuCache

theorem PaintFrame.refl (s : State) : PaintFrame s s := ⟨DrawFrame.refl s, rfl, rfl, rfl, rfl⟩

theorem PaintFrame.trans {s t u : State} (h : PaintFrame s t) (k : PaintFrame t u) : PaintFrame s u :=
  ⟨h.toDrawFrame.trans k.toDrawFrame, k.errors_eq.trans h.errors_eq, k.moreToDraw.trans h.moreToDraw,
    k.andPhase.trans h.andPhase, k.fpuCache.trans h.fpuCache⟩

/-- What an opaque fragment makes of its pixel (R321). -/
def paint (p : DrawParameters) (covered : Fin 1024 → Bool) (zf : Fin 1024 → Word) (i : Fin 1024) (px : Pixel) : Pixel :=
  if covered i ∧ depthPasses (bits p.hdr.isp 31 29) (zf i) px.depthTest = true then
    writeFragment p.hdr.isp p.tag (zf i) px
  else px

/-- One pixel of an opaque primitive. -/
theorem visitAt_opaque (p : DrawParameters) (covered : Fin 1024 → Bool) (zf : Fin 1024 → Word) (i : Fin 1024)
    {s : State} (hm : s.mode = .opaqueMode) :
    ∃ t, visitAt p covered zf i s = .next t ∧ PaintFrame s t ∧ OtherPixels i s t ∧
      pixel t i = paint p covered zf i (pixel s i) := by
  unfold visitAt paint
  cases hc : covered i with
  | false => exact ⟨s, rfl, PaintFrame.refl s, fun _ _ => rfl, by simp⟩
  | true =>
    rw [if_pos rfl, pixelRule_opaqueMode hm, pixelOpaque_eq]
    obtain ⟨hframe, hcache, hand, hother, hpix, hmore⟩ := fragmentState_effect s i (testedIsp p.hdr.isp (zf i) i s) i
      (writeFragment p.hdr.isp p.tag (zf i)) (depthPasses (bits p.hdr.isp 31 29) (zf i) (pixel s i).depthTest) false
    refine ⟨_, rfl, ⟨hframe, ?_, by simpa using hmore, hand, hcache⟩, hother, by simpa using hpix⟩
    unfold fragmentState
    split <;> rfl

/-- Pixels painted one after the other: each of the list once, every other as before. -/
theorem forEach_visitAt_opaque (p : DrawParameters) (covered : Fin 1024 → Bool) (zf : Fin 1024 → Word) :
    ∀ {l : List (Fin 1024)}, l.Nodup → ∀ {s : State}, s.mode = .opaqueMode →
      ∃ t, forEach (visitAt p covered zf) l s = .next t ∧ PaintFrame s t ∧
        ∀ j, pixel t j = if j ∈ l then paint p covered zf j (pixel s j) else pixel s j
  | [], _, s, _ => ⟨s, rfl, PaintFrame.refl s, fun _ => by simp⟩
  | i :: l, hl, s, hm => by
    rw [List.nodup_cons] at hl
    obtain ⟨u, hu, hframe, hother, hpix⟩ := visitAt_opaque p covered zf i hm
    obtain ⟨t, ht, hrest, hall⟩ := forEach_visitAt_opaque p covered zf hl.2 (hframe.mode.trans hm)
    refine ⟨t, by rw [forEach_cons, hu, andThen_next, ht], hframe.trans hrest, fun j => ?_⟩
    rw [hall j]
    by_cases hj : j = i
    · subst hj
      rw [if_neg hl.1, if_pos List.mem_cons_self, hpix]
    · rw [hother j hj]
      simp [hj]

/-- An opaque primitive that is drawn fills the pixels it covers where the depth test passes (R321). -/
theorem forEach_visitAt_fills (p : DrawParameters) (covered : Fin 1024 → Bool) (zf : Fin 1024 → Word) {s : State}
    (hm : s.mode = .opaqueMode) :
    ∃ t, forEach (visitAt p covered zf) allPixels (setupState p s) = .next t ∧ DrawFrame s t ∧ t.errors = s.errors ∧
      t.moreToDraw = s.moreToDraw ∧ t.andPhase = s.andPhase ∧ cacheLookup t p.tag = some p ∧
      ∀ i, pixel t i = paint p covered zf i (pixel s i) := by
  obtain ⟨t, ht, hframe, hpix⟩ :=
    forEach_visitAt_opaque p covered zf (List.nodup_finRange 1024) (s := setupState p s) hm
  refine ⟨t, ht, (drawFrame_setupState p s).trans hframe.toDrawFrame, hframe.errors_eq, hframe.moreToDraw,
    hframe.andPhase, ?_, fun i => ?_⟩
  · rw [cacheLookup, hframe.fpuCache, setupState, hm]
    simp
  · rw [hpix i, if_pos (List.mem_finRange i)]
    rfl

/-- Settles O36. -/
theorem opaqueTriangleFillsItsCoverage : Obligations.OpaqueTriangleFillsItsCoverage := by
  intro hdr v0 v1 v2 v3 tag s h0 h1 h2 harea hcull
  have hcode : (hdr.isp.extractLsb' 29 3).toNat = bits hdr.isp 31 29 := (bits_eq_extract _ 31 29).symm
  simp only [← sampleX_eq, ← sampleY_eq, hcode]
  simp only [← bit_eq_getLsbD]
  have htri : rasterizeTriangle hdr v0 v1 v2 tag s = _ :=
    ((rasterizeTriangle_finite h0 h1 h2 tag s).trans (rasterizePlane_drawn _ harea hcull)).trans
      (forEach_visitPixel _ _ _ s (drawFrame_setupState _ s) allPixels)
  have hquad := fun h3 : vertexFinite v3 = true =>
    ((rasterizeQuad_finite h0 h1 h2 h3 tag s).trans (rasterizePlane_drawn _ harea hcull)).trans
      (forEach_visitPixel _ _ _ s (drawFrame_setupState _ s) allPixels)
  refine ⟨fun hm => ?_, fun h3 hm => ?_, htri, hquad⟩
  · rw [htri]
    exact forEach_visitAt_fills _ _ _ hm
  · rw [hquad h3]
    exact forEach_visitAt_fills _ _ _ hm

end Sys2Proof.Machine
end

section
/-! PROOF. Tag passes and two-volume shading (R400 to R403, R355, R456). -/

namespace Sys2Proof.Machine

/-! ### The TSP word through the pipeline -/

theorem touchAll_tsp (l : List Nat) (s : State) : (touchAll l s).tsp = s.tsp := by rw [touchAll_eq]

theorem baseLevel_tspWord (s : State) : (baseLevel s).tsp.tspWord = s.tsp.tspWord := rfl

theorem setLevel_tspWord (s : State) : (setLevel s).tsp.tspWord = s.tsp.tspWord := by
  unfold setLevel evalMip
  dsimp only
  split
  · split <;> rfl
  · rfl

theorem scanTexel_tspWord (s : State) : (scanTexel s).tsp.tspWord = s.tsp.tspWord := by rw [scanTexel_eq]

theorem readTexel16_tspWord (addr : Nat) (s : State) : (readTexel16 addr s).2.tsp.tspWord = s.tsp.tspWord := by
  rw [readTexel16_eq]
  exact (congrArg TspUnit.tspWord (touchAll_tsp _ _)).trans (scanTexel_tspWord s)

theorem evalArgb1555_tspWord (addr : Nat) (s : State) : (evalArgb1555 addr s).tsp.tspWord = s.tsp.tspWord :=
  readTexel16_tspWord addr s

theorem evalRgb565_tspWord (addr : Nat) (s : State) : (evalRgb565 addr s).tsp.tspWord = s.tsp.tspWord :=
  readTexel16_tspWord addr s

theorem evalArgb4444_tspWord (addr : Nat) (s : State) : (evalArgb4444 addr s).tsp.tspWord = s.tsp.tspWord :=
  readTexel16_tspWord addr s

theorem evalBump_tspWord (addr : Nat) (s : State) : (evalBump addr s).tsp.tspWord = s.tsp.tspWord :=
  readTexel16_tspWord addr s

theorem readPalette_touch_tspWord (s : State) (a k : Nat) :
    (readPalette k (touch a (evalTwiddled s))).tsp.tspWord = s.tsp.tspWord := by
  rw [readPalette_touch]
  rfl

theorem evalPal4_tspWord (sel addr : Nat) (s : State) : (evalPal4 sel addr s).tsp.tspWord = s.tsp.tspWord :=
  readPalette_touch_tspWord s _ _

theorem evalPal8_tspWord (sel addr : Nat) (s : State) : (evalPal8 sel addr s).tsp.tspWord = s.tsp.tspWord :=
  readPalette_touch_tspWord s _ _

theorem evalYuv422_tspWord (addr : Nat) (s : State) : (evalYuv422 addr s).tsp.tspWord = s.tsp.tspWord := by
  rw [evalYuv422_eq]

/-- A fetch leaves the TSP word alone (R420). -/
theorem fetchTexel_tspWord (iu iv : Nat) (s : State) : (fetchTexel iu iv s).tsp.tspWord = s.tsp.tspWord := by
  unfold fetchTexel
  dsimp only
  split
  · exact evalArgb1555_tspWord _ (setTexel iu iv s)
  · exact evalRgb565_tspWord _ (setTexel iu iv s)
  · exact evalArgb4444_tspWord _ (setTexel iu iv s)
  · exact evalYuv422_tspWord _ (setTexel iu iv s)
  · exact evalBump_tspWord _ (setTexel iu iv s)
  · exact evalPal4_tspWord _ _ (setTexel iu iv s)
  · exact evalPal8_tspWord _ _ (setTexel iu iv s)
  · rfl

theorem evalFilter_tspWord (k : Nat) (s : State) : (evalFilter k s).tsp.tspWord = s.tsp.tspWord := by
  unfold evalFilter
  split
  · exact fetchTexel_tspWord _ _ s
  · unfold evalBilinear
    simp only [setTsp_tsp, fetchTexel_tspWord]

theorem textureStage_tspWord {s t : State} (h : textureStage s = .next t) : t.tsp.tspWord = s.tsp.tspWord := by
  unfold textureStage at h
  dsimp only at h
  split at h
  · cases h
  · split at h
    · cases h
    · cases h
      exact (evalFilter_tspWord _ _).trans (setLevel_tspWord s)

theorem fogAlpha_tsp (s : State) : (fogAlpha s).2.tsp = s.tsp := by
  unfold fogAlpha
  split <;> rfl

theorem evalFog_tspWord (k : Nat) (s : State) : (evalFog k s).tsp.tspWord = s.tsp.tspWord := by
  unfold evalFog
  dsimp only
  split
  · rw [setTsp_tsp, fogAlpha_tsp]
  · rfl
  · rfl
  · rw [setTsp_tsp, fogAlpha_tsp]

theorem colourStage_tspWord (isp : Word) (s : State) : (colourStage isp s).tsp.tspWord = s.tsp.tspWord := by
  have hoffset : (if bit isp 24 then setTsp (fun t => { t with c := addOffset t.c t.offset }) s else s).tsp.tspWord =
      s.tsp.tspWord := by
    split <;> rfl
  unfold colourStage
  dsimp only
  split
  · exact (evalFog_tspWord _ _).trans hoffset
  · exact (evalFog_tspWord _ _).trans hoffset

theorem interpolateSet_tspWord (p : DrawParameters) (second : Bool) (s : State) :
    (interpolateSet p second s).tsp.tspWord = setTspWord p.hdr second := by
  unfold interpolateSet interpolateUv
  dsimp only
  split
  · split <;> rfl
  · rfl

/-- Shading a set leaves its TSP word with the TSP (R404). -/
theorem shadeSet_tspWord {p : DrawParameters} {second : Bool} {s t : State} (h : shadeSet p second s = .next t) :
    t.tsp.tspWord = setTspWord p.hdr second := by
  obtain ⟨u, hu, h⟩ := andThen_eq_next.1 h
  cases h
  rw [colourStage_tspWord, ← interpolateSet_tspWord p second s]
  split at hu
  · exact textureStage_tspWord hu
  · cases hu
    rfl

theorem shadeSet_frame {p : DrawParameters} {second : Bool} {s t : State} (h : shadeSet p second s = .next t) :
    ShadeFrame s t := by
  rcases shades_shadeSet p second s with ⟨u, hu, hframe⟩ | hr | hr
  · rw [h] at hu
    cases hu
    exact hframe
  · rw [h] at hr
    cases hr
  · rw [h] at hr
    cases hr

/-! ### Two-volume primitives -/

theorem inside_iff (s : State) (i : Fin 1024) :
    inside s i = true ↔
      (pixel s i).stencil.getLsbD 1 = true ∧ ((pixel s i).stencil.getLsbD 2 = true ∨ s.andPhase = false) := by
  rw [inside, Bool.and_eq_true, Bool.or_eq_true, Bool.not_eq_true']

theorem ShadeFrame.inside_eq {s t : State} (h : ShadeFrame s t) (i : Fin 1024) : inside t i = inside s i := by
  rw [inside, inside, h.pixel_eq, h.andPhase]

/-- A primitive of one volume is shaded with its first set (R402). -/
theorem shade_one {p : DrawParameters} (h : p.hdr.twoVolume = false) (i : Fin 1024) (s : State) :
    shade p i s = shadeSet p false { s with pix := i } := by
  rw [shade, h]
  cases shadeSet p false { s with pix := i } <;> rfl

/-- A primitive of two volumes is shaded with both sets, and takes the second's colour inside the volume (R402). -/
theorem shade_two {p : DrawParameters} (h : p.hdr.twoVolume = true) {i : Fin 1024} {s a b : State}
    (ha : shadeSet p false { s with pix := i } = .next a) (hb : shadeSet p true a = .next b) :
    shade p i s = .next (if inside s i then b
      else setTsp (fun t => { t with c := a.tsp.c, tspWord := a.tsp.tspWord }) b) := by
  have hinside : inside b i = inside s i :=
    ((shadeSet_frame hb).inside_eq i).trans ((shadeSet_frame ha).inside_eq i)
  rw [shade, ha, andThen_next, h, if_pos rfl, hb, andThen_next, hinside]
  split <;> rfl

/-- Settles O57. -/
theorem twoVolumeSelection : Obligations.TwoVolumeSelection := by
  refine ⟨fun p i s => ⟨inside_iff s i, fun h => shade_one h i s, rfl⟩, fun p i s a b h ha hb => ?_⟩
  have hframe := (shadeSet_frame ha).trans (shadeSet_frame hb)
  refine ⟨_, shade_two h ha hb, ?_⟩
  split
  · exact ⟨rfl, shadeSet_tspWord hb, hframe⟩
  · exact ⟨rfl, shadeSet_tspWord ha, hframe.trans (shadeFrame_setTsp _ b)⟩

/-! ### Tag passes -/

theorem isBackground_iff (s : State) (t : Word) :
    isBackground s t = true ↔ t = reg s .ispBackgndT &&& 0x1FFFFFFF ∨ t = 0xFFFFFFFF := by
  rw [isBackground, Bool.or_eq_true, beq_iff_eq, beq_iff_eq, bgTag_eq]

theorem ptAlphaRef_eq (s : State) : ptAlphaRef s = ((reg s .ptAlphaRef).extractLsb' 0 8).toNat := bits_eq_extract _ 7 0

/-- A pixel that is background or written is left (R400). -/
theorem renderTag_skips {m : RenderMode} {i : Fin 1024} {s : State}
    (h : isBackground s (pixel s i).tag = true ∨ (pixel s i).written = true) : renderTag m i s = .next s := by
  rw [renderTag, if_pos (Bool.or_eq_true_iff.mpr h)]

/-- Any other pixel is shaded, then made a Z-hole or blended (R400, R456). -/
theorem renderTag_shades {m : RenderMode} {i : Fin 1024} {s u : State}
    (hb : isBackground s (pixel s i).tag = false) (hw : (pixel s i).written = false)
    (hu : shade (resolve (pixel s i).tag s).1 i (resolve (pixel s i).tag s).2 = .next u) :
    renderTag m i s =
      if m = .punchthroughPass0 ∧ u.tsp.c.a.toNat < ptAlphaRef u then .next (updatePixel i (zHole (bgTag u)) u)
      else .next (updatePixel i setWritten (blendPixel u)) := by
  unfold renderTag
  dsimp only
  rw [hb, hw, if_neg (by decide), hu]
  rfl

/-- Blending at a pixel changes its accumulator (R461). -/
theorem pixel_blendPixel {s : State} {i : Fin 1024} (h : s.pix = i) :
    OtherPixels i s (blendPixel s) ∧
      pixel (blendPixel s) i = { pixel s i with accum := (pixel (blendPixel s) i).accum } := by
  subst h
  have hquiet : ShadeFrame s (evalSrc (bits s.tsp.tspWord 31 29) s) := shadeFrame_evalSrc _ s
  unfold blendPixel evalDst
  rw [hquiet.pix]
  refine ⟨fun j hj => (pixel_updatePixel_other _ j _ _ hj).trans (hquiet.pixel_eq j), ?_⟩
  rw [pixel_updatePixel_self, hquiet.pixel_eq]

/-- Settles O56. -/
theorem tagPassPixel : Obligations.TagPassPixel := by
  refine ⟨fun m s => rfl, fun m i s => ?_⟩
  intro px background
  have hback : isBackground s px.tag = true ↔ background := isBackground_iff s px.tag
  refine ⟨fun h => renderTag_skips (h.imp_left hback.mpr), fun hb hw u hu => ?_⟩
  have hframe : QuietFrame s u := (shadeFrame_resolve px.tag s).quiet.trans (shade_next hu).1
  have hpixel := fun j => pixel_congr hframe.tile j
  rw [renderTag_shades (Bool.eq_false_of_not_eq_true fun h => hb (hback.mp h)) hw hu, ptAlphaRef_eq, bgTag_eq,
    hframe.reg_eq, hframe.reg_eq]
  split
  · refine ⟨_, rfl, hframe.toDrawFrame.trans (drawFrame_updatePixel _ _ u), fun j hj => ?_, ?_⟩
    · rw [pixel_updatePixel_other i j _ u hj, hpixel]
    · rw [pixel_updatePixel_self, hpixel]
      rfl
  · obtain ⟨hother, hself⟩ := pixel_blendPixel (shade_next hu).2
    refine ⟨_, rfl, (hframe.toDrawFrame.trans (drawFrame_blendPixel u)).trans (drawFrame_updatePixel _ _ _),
      fun j hj => ?_, ?_⟩
    · rw [pixel_updatePixel_other i j _ _ hj, hother j hj, hpixel]
    · rw [pixel_updatePixel_self, hself, hpixel]
      rfl

end Sys2Proof.Machine
end

section
/-! PROOF. The colour codes and the shading pipeline that runs them (R404 to R409, R440, R441, R445, R450, R461). -/

namespace Sys2Proof.Machine

/-! ### The codes -/

/-- Towards a fog colour, its word's fields cut out (R445). -/
theorem fogBlend_eq (c : Color) (w : Word) (f : Byte) :
    fogBlend c w f = ⟨lerp8 c.r (w.extractLsb' 16 8) f, lerp8 c.g (w.extractLsb' 8 8) f,
      lerp8 c.b (w.extractLsb' 0 8) f, c.a⟩ := by
  rw [fogBlend, unpackColor_eq]

theorem evalFog_table (s : State) :
    evalFog 0 s = setTsp (fun t => { t with c := fogBlend t.c (reg s .fogColRam) (fogAlpha s).1 }) (fogAlpha s).2 := rfl

theorem evalFog_tableAlpha (s : State) :
    evalFog 3 s = setTsp (fun t => { t with
      c := ⟨(reg s .fogColRam).extractLsb' 16 8, (reg s .fogColRam).extractLsb' 8 8,
        (reg s .fogColRam).extractLsb' 0 8, (fogAlpha s).1⟩ }) (fogAlpha s).2 := by
  unfold evalFog
  dsimp only
  rw [unpackColor_eq]
  rfl

/-- Blending is the SRC code and then the DST code of the TSP word (R461). -/
theorem exec_src_dst (s : State) :
    andThen (exec (decodeSrc s.tsp.tspWord) s) (exec (decodeDst s.tsp.tspWord)) = .next (blendPixel s) := by
  rw [exec_decodeSrc, andThen_next, exec_decodeDst]
  rfl

/-! ### The attributes -/

theorem shadingCoordinate_finite {w : Word} (h : f32Finite w = true) (s : State) :
    shadingCoordinate w s = (f32Value w, s) := if_pos h

/-- The plane of a finite primitive is its own (R405). -/
theorem shadingPlane_finite {p : DrawParameters} (h0 : vertexFinite p.v0 = true) (h1 : vertexFinite p.v1 = true)
    (h2 : vertexFinite p.v2 = true) (s : State) : shadingPlane p s = (planeOf p.v0 p.v1 p.v2, s) := by
  simp only [vertexFinite, Bool.and_eq_true] at h0 h1 h2
  simp only [shadingPlane, shadingCoordinate_finite, h0, h1, h2]
  rfl

theorem shadingWeights_of_ne {t : Plane} (h : t.area2 ≠ 0) (px py : Rat) (s : State) :
    shadingWeights t px py s = (t.weights px py, s) := if_neg h

/-- One interpolated channel, its rounding written out (R406, R407). -/
theorem interpolateChannel_eq (t : Plane) (w : Weights) (a0 a1 a2 : Byte) :
    interpolateChannel t w a0 a1 a2 =
      BitVec.ofNat 8 (min (max ⌊interpolate t w a0.toNat a1.toNat a2.toNat + 1 / 2⌋ 0) 255).toNat := by
  rw [interpolateChannel, mkRat_one_two, clamp255]
  rfl

/-- An interpolated colour channel by channel (R406, R407). -/
theorem interpolateColor_unpack (g : Bool) (t : Plane) (w : Weights) (c0 c1 c2 : Word) :
    interpolateColor g t w (unpackColor c0) (unpackColor c1) (unpackColor c2) =
      (let at_ := fun (lo : Nat) => if g then
          interpolateChannel t w (c0.extractLsb' lo 8) (c1.extractLsb' lo 8) (c2.extractLsb' lo 8)
        else c2.extractLsb' lo 8
       ⟨at_ 16, at_ 8, at_ 0, at_ 24⟩) := by
  rw [unpackColor_eq, unpackColor_eq, unpackColor_eq]
  cases g <;> rfl

theorem uvFinite_eq (p : DrawParameters) (second : Bool) :
    uvFinite p second = (f32Finite (setU p.v0 second) && f32Finite (setU p.v1 second) && f32Finite (setU p.v2 second) &&
      f32Finite (setV p.v0 second) && f32Finite (setV p.v1 second) && f32Finite (setV p.v2 second)) := by
  unfold uvFinite
  simp only [Bool.and_assoc]
  generalize f32Finite (setU p.v0 second) = a
  generalize f32Finite (setU p.v1 second) = b
  generalize f32Finite (setU p.v2 second) = c
  cases a <;> cases b <;> cases c <;> simp

/-- The texture coordinates of a set and their report in one record (R405, R406, R409). -/
theorem interpolateUv_eq (p : DrawParameters) (second : Bool) (t : Plane) (w : Weights) (s : State) :
    interpolateUv p second t w s =
      (let coordinate := fun (a : Vertex → Bool → Word) => if uvFinite p second then
          interpolate t w (f32Value (a p.v0 second)) (f32Value (a p.v1 second)) (f32Value (a p.v2 second)) else 0
       { s with
         errors := s.errors ++ if bit p.hdr.isp 25 && !uvFinite p second then [.numericDomain p.tag] else []
         tsp := { s.tsp with
           u := if bit p.hdr.isp 25 then coordinate setU else s.tsp.u
           v := if bit p.hdr.isp 25 then coordinate setV else s.tsp.v } }) := by
  unfold interpolateUv
  cases bit p.hdr.isp 25 with
  | false => simp
  | true =>
    cases uvFinite p second with
    | false => rfl
    | true => simp [setTsp]

/-- The attributes of a set over a finite plane of nonzero area (R405 to R408). -/
theorem interpolateSet_finite {p : DrawParameters} (h0 : vertexFinite p.v0 = true) (h1 : vertexFinite p.v1 = true)
    (h2 : vertexFinite p.v2 = true) (harea : (planeOf p.v0 p.v1 p.v2).area2 ≠ 0) (second : Bool) (s : State) :
    interpolateSet p second s =
      (let t := planeOf p.v0 p.v1 p.v2
       let w := t.weights (sampleX s s.pix) (sampleY s s.pix)
       interpolateUv p second t w (setTsp (fun r =>
        { r with
          params := p
          tspWord := setTspWord p.hdr second
          tcw := setTcw p.hdr second
          zf := rne32 (t.invW w)
          base := applyUseAlpha (setTspWord p.hdr second) (interpolateColor (bit p.hdr.isp 23) t w
            (setBase p.v0 second) (setBase p.v1 second) (setBase p.v2 second))
          offset :=
            if bit p.hdr.isp 24 then interpolateColor (bit p.hdr.isp 23) t w (setOffset p.v0 second)
              (setOffset p.v1 second) (setOffset p.v2 second)
            else Color.zero }) s)) := by
  unfold interpolateSet
  dsimp only
  rw [shadingPlane_finite h0 h1 h2]
  dsimp only
  rw [shadingWeights_of_ne harea]

/-! ### The stages -/

/-- Two continuations that agree on the next state the first part reaches. -/
theorem andThen_congr {o : Res} {f g : State → Res} (h : ∀ t, o = .next t → f t = g t) : andThen o f = andThen o g := by
  cases o with
  | next t => exact h t rfl
  | fault r => rfl
  | refused r => rfl

theorem baseLevel_of_not_mipmapped {s : State} (h : bit s.tsp.tcw 31 = false) :
    baseLevel s = { s with tsp := { s.tsp with
      level := 0
      nu := 8 * 2 ^ (s.tsp.tspWord.extractLsb' 3 3).toNat
      nv := 8 * 2 ^ (s.tsp.tspWord.extractLsb' 0 3).toNat } } := by
  have hv : texVSize s.tsp.tspWord s.tsp.tcw = 8 * 2 ^ (s.tsp.tspWord.extractLsb' 0 3).toNat := by
    rw [texVSize, h, Bool.false_and, if_neg Bool.false_ne_true, bits_eq_extract, Nat.pow_add, Nat.mul_comm]
  rw [baseLevel, ← texUSize_eq, ← hv]
  rfl

/-- The texture stage by the codes of the two words (R404, R411, R415, R440). -/
theorem textureStage_codes (a : State) :
    textureStage a =
      if a.tsp.tcw.getLsbD 30 then .refused .vqCompressed
      else if a.tsp.tcw.extractLsb' 27 3 = 7#3 then .refused .pixelFmtReserved
      else andThen (if a.tsp.tcw.getLsbD 31 then exec .tcwMipmapped a else .next { a with tsp := { a.tsp with
          level := 0
          nu := 8 * 2 ^ (a.tsp.tspWord.extractLsb' 3 3).toNat
          nv := 8 * 2 ^ (a.tsp.tspWord.extractLsb' 0 3).toNat } }) fun b =>
        andThen (exec (decodeFilter a.tsp.tspWord) b) fun c =>
          exec (decodeShad a.tsp.tspWord) { c with tsp := { c.tsp with
            tex := if a.tsp.tspWord.getLsbD 19 then { c.tsp.tex with a := 255 } else c.tsp.tex } } := by
  have hfmt : a.tsp.tcw.extractLsb' 27 3 = 7#3 ↔ bits a.tsp.tcw 29 27 = 7 := by
    rw [bits_eq_extract, ← BitVec.toNat_inj]
    rfl
  have hlevel : (if a.tsp.tcw.getLsbD 31 then exec .tcwMipmapped a else .next { a with tsp := { a.tsp with
      level := 0
      nu := 8 * 2 ^ (a.tsp.tspWord.extractLsb' 3 3).toNat
      nv := 8 * 2 ^ (a.tsp.tspWord.extractLsb' 0 3).toNat } }) = .next (setLevel a) := by
    rw [setLevel, ← bit_eq_getLsbD]
    cases h : bit a.tsp.tcw 31 with
    | true => rfl
    | false => exact congrArg Host.Outcome.next (baseLevel_of_not_mipmapped h).symm
  rw [hlevel]
  simp only [hfmt, andThen_next, exec_decodeFilter, exec_decodeShad, ← bit_eq_getLsbD]
  rfl

theorem textureStage_frame {s t : State} (h : textureStage s = .next t) : ShadeFrame s t := by
  rcases shades_textureStage s with ⟨u, hu, hframe⟩ | hr | hr
  · rw [h] at hu
    cases hu
    exact hframe
  · rw [h] at hr
    cases hr
  · rw [h] at hr
    cases hr

/-- The steps after texturing by the FOG code (R404, R441, R445, R450). -/
theorem colourStage_codes {s b : State} {w : Word} (hw : b.tsp.tspWord = w) (hframe : ShadeFrame s b) (isp : Word) :
    andThen (exec (decodeFog w) (if isp.getLsbD 24 then { b with tsp := { b.tsp with
        c := addOffset b.tsp.c b.tsp.offset } } else b)) (fun d =>
      .next (if w.getLsbD 21 then { d with tsp := { d.tsp with c := colorClamp s d.tsp.c } } else d)) =
      .next (colourStage isp b) := by
  subst hw
  have hreg : ∀ k r, reg (evalFog k (if bit isp 24 then setTsp (fun t => { t with c := addOffset t.c t.offset }) b
      else b)) r = reg s r := by
    intro k r
    refine (hframe.trans (ShadeFrame.trans ?_ (shadeFrame_evalFog k _))).reg_eq r
    split
    · exact shadeFrame_setTsp _ b
    · exact ShadeFrame.refl b
  simp only [← bit_eq_getLsbD, exec_decodeFog, andThen_next, colourStage, colorClamp, hreg]
  rfl

/-- Settles O47: the codes are the model's operations; the pipeline is its stages, each by the code of its word. -/
theorem colourCodes : Obligations.ColourCodes := by
  refine ⟨fun s => ?_, fun s src dst hsrc hdst => ?_, ?_⟩
  · intro x b c gives toward table tableAlpha
    refine ⟨rfl, rfl, rfl, rfl, rfl, ?_, fun hf => ⟨?_, ?_⟩, fun hf => ⟨(fogAlpha s).1, ?_, ?_⟩⟩
    · exact congrArg (fun c => Host.Outcome.next { s with tsp := { s.tsp with c := c } }) (fogBlend_eq _ _ _)
    · refine (congrArg Host.Outcome.next (evalFog_table s)).trans ?_
      rw [fogAlpha, if_pos hf, setTsp, fogBlend_eq]
    · refine (congrArg Host.Outcome.next (evalFog_tableAlpha s)).trans ?_
      rw [fogAlpha, if_pos hf]
      rfl
    · refine (congrArg Host.Outcome.next (evalFog_table s)).trans ?_
      rw [fogAlpha, if_neg (Bool.eq_false_iff.mp hf), setTsp, fogBlend_eq]
      rfl
    · refine (congrArg Host.Outcome.next (evalFog_tableAlpha s)).trans ?_
      rw [fogAlpha, if_neg (Bool.eq_false_iff.mp hf)]
      rfl
  · obtain rfl : decodeSrc s.tsp.tspWord = src := Except.ok.inj hsrc
    obtain rfl : decodeDst s.tsp.tspWord = dst := Except.ok.inj hdst
    exact exec_src_dst s
  · intro p second s filter shad fog isp w tcw hfilter hshad hfog h0 h1 h2 harea t l den mix channel colour u v base
      offset finite coordinate a sampled add clamp
    obtain rfl : decodeFilter w = filter := Except.ok.inj hfilter
    obtain rfl : decodeShad w = shad := Except.ok.inj hshad
    obtain rfl : decodeFog w = fog := Except.ok.inj hfog
    have hset : interpolateSet p second s = a := by
      rw [interpolateSet_finite h0 h1 h2 harea]
      simp only [interpolateUv_eq, setBase, setOffset, interpolateColor_unpack, interpolateChannel_eq, uvFinite_eq,
        applyUseAlpha, bit_eq_getLsbD]
      rfl
    have hstage : textureStage a = sampled := textureStage_codes a
    have hframe : ShadeFrame s a := hset ▸ shadeFrame_interpolateSet p second s
    have hclamp : ∀ c : Color, colorClamp s c = ⟨clamp c.r 16, clamp c.g 8, clamp c.b 0, clamp c.a 24⟩ := fun c => by
      rw [colorClamp, unpackColor_eq, unpackColor_eq]
      rfl
    have hcombined : ∀ b, (if isp.getLsbD 25 then sampled else .next { a with tsp := { a.tsp with c := a.tsp.base } }) =
        .next b → ShadeFrame a b ∧ b.tsp.tspWord = w := by
      intro b hb
      split at hb
      · rw [← hstage] at hb
        exact ⟨textureStage_frame hb, textureStage_tspWord hb⟩
      · cases hb
        exact ⟨shadeFrame_setTsp (fun t => { t with c := t.base }) a, rfl⟩
    rw [shadeSet, hset]
    simp only [hstage, bit_eq_getLsbD]
    refine andThen_congr fun b hb => ?_
    obtain ⟨hb, hword⟩ := hcombined b hb
    rw [← colourStage_codes hword (hframe.trans hb)]
    simp only [hclamp]
    rfl

end Sys2Proof.Machine
end

section
/-! PROOF. The drawing entries of an object list: strips and arrays as the primitives they rasterize (R245 to R257),
that they complete, and what is refused (R606). -/

namespace Sys2Proof.Machine

/-! ### Entries -/

/-- `two_volume` of a block in the mode of the state (R141). -/
theorem twoVolume_mode (s : State) (shadow : Bool) :
    twoVolume s s.mode shadow = (shadow && decide (s.mode ≠ .modifier) && twoVolumeEn s) := by
  rw [twoVolume]
  by_cases hm : s.mode = .modifier <;> simp [hm]

theorem twoVolumeEn_eq (s : State) : twoVolumeEn s = !(reg s .fpuShadScale).getLsbD 8 := by
  rw [twoVolumeEn, bit_eq_getLsbD]

/-- An array entry of primitives with `n` vertices (R245, R255, R257). -/
def arrayEntry (n offs skip : Nat) (shadow : Bool) (prims : Nat) (s : State) : Res :=
  traversing (fun s => andThen (renderArray n skip shadow (prims + 1) offs s) fun s1 => .next (nextEntry s1)) s

theorem exec_tarray (offs skip : Nat) (shadow : Bool) (prims : Nat) (s : State) :
    exec (.tarray offs skip shadow prims) s = arrayEntry 3 offs skip shadow prims s := rfl

theorem exec_qarray (offs skip : Nat) (shadow : Bool) (prims : Nat) (s : State) :
    exec (.qarray offs skip shadow prims) s = arrayEntry 4 offs skip shadow prims s := rfl

theorem traversing_mv {s : State} (h : s.mode = .punchthroughMv) (f : State → Res) :
    traversing f s = .refused .punchthroughMvTraversal := if_pos h

theorem arrayPrimitive_frame {n o skip : Nat} {shadow : Bool} {s t : State}
    (h : arrayPrimitive n o skip shadow s = .next t) : DrawFrame s t :=
  ((drawLaw_frame s.mode).arrayPrimitive h rfl).1

theorem renderArray_frame {n skip count o : Nat} {shadow : Bool} {s t : State}
    (h : renderArray n skip shadow count o s = .next t) : DrawFrame s t :=
  ((drawLaw_frame s.mode).renderArray h rfl).1

theorem renderStrip_frame {offs skip mask : Nat} {shadow : Bool} {s t : State}
    (h : renderStrip offs skip shadow mask s = .next t) : DrawFrame s t :=
  ((drawLaw_frame s.mode).renderStrip h rfl).1

theorem renderArray_one (n skip : Nat) (shadow : Bool) (o : Nat) (s : State) :
    renderArray n skip shadow 1 o s = arrayPrimitive n o skip shadow s := by
  rw [renderArray]
  cases arrayPrimitive n o skip shadow s <;> rfl

/-- An entry of one primitive (R255, R257). -/
theorem arrayEntry_zero {s : State} (h : s.mode ≠ .punchthroughMv) (n offs skip : Nat) (shadow : Bool) :
    arrayEntry n offs skip shadow 0 s =
      andThen (arrayPrimitive n offs skip shadow s) fun t => .next (nextEntry t) := by
  rw [arrayEntry, traversing_of_mode h, renderArray_one]

/-- An entry of more primitives is its first, and the entry of the rest at the next block (R255, R256). -/
theorem arrayEntry_succ (n offs skip k : Nat) (shadow : Bool) (s : State) :
    arrayEntry n offs skip shadow (k + 1) s =
      andThen (arrayEntry n offs skip shadow 0 s) fun t =>
        arrayEntry n (nextBlock offs skip (twoVolume s s.mode shadow) n) skip shadow k
          { t with listPtr := s.listPtr } := by
  by_cases hm : s.mode = .punchthroughMv
  · rw [arrayEntry, arrayEntry, traversing_mv hm, traversing_mv hm]
    rfl
  · rw [arrayEntry, traversing_of_mode hm, arrayEntry_zero hm, renderArray, andThen_assoc, andThen_assoc]
    refine andThen_congr fun t ht => ?_
    have hframe := arrayPrimitive_frame ht
    have hback : { nextEntry t with listPtr := s.listPtr } = t := by rw [← hframe.listPtr]; rfl
    rw [andThen_next, hback, arrayEntry, traversing_of_mode (hframe.mode.symm ▸ hm)]

/-- After a block the VolumeMode code of its ISP word folds, in MODIFIER mode (R354). -/
theorem foldAfterBlock_exec {isp : Word} {fold : Instr} (hfold : decode .volumeMode isp = .ok fold) (s : State) :
    foldAfterBlock isp s = if s.mode = .modifier then exec fold s else .next s := by
  obtain rfl : decodeVolume isp = fold := Except.ok.inj hfold
  rw [foldAfterBlock, exec_decodeVolume]

/-- A block that is rasterized in the mode of `s`, and folded in that mode. -/
theorem andThen_foldAfterBlock {o : Res} {m : RenderMode} (ho : ∀ t, o = .next t → t.mode = m) {isp : Word}
    {fold : Instr} (hfold : decode .volumeMode isp = .ok fold) :
    andThen o (foldAfterBlock isp) = andThen o fun t => if m = .modifier then exec fold t else .next t :=
  andThen_congr fun t ht => by rw [foldAfterBlock_exec hfold, ho t ht]

theorem rasterizeTriangle_mode {hdr : Header} {v0 v1 v2 : Vertex} {tag : Word} {s t : State}
    (h : rasterizeTriangle hdr v0 v1 v2 tag s = .next t) : t.mode = s.mode :=
  ((drawLaw_frame s.mode).rasterizeTriangle h rfl).2

theorem rasterizeQuad_mode {hdr : Header} {v0 v1 v2 v3 : Vertex} {tag : Word} {s t : State}
    (h : rasterizeQuad hdr v0 v1 v2 v3 tag s = .next t) : t.mode = s.mode :=
  ((drawLaw_frame s.mode).rasterizeQuad h rfl).2

theorem touchAll_mode (l : List Nat) (s : State) : (touchAll l s).mode = s.mode := (shadeFrame_touchAll l s).mode

/-- A primitive of three vertices is a triangle (R255). -/
theorem arrayPrimitive_triangle {s : State} {o : Nat} {fold : Instr}
    (hfold : decode .volumeMode (word32 s.vram (paramBase s + o * 4)) = .ok fold) (skip : Nat) (shadow : Bool) :
    arrayPrimitive 3 o skip shadow s =
      (let two := twoVolume s s.mode shadow
       let b := blockAt s.mode s.vram (paramBase s + o * 4) skip two 3
       andThen (rasterizeTriangle b.hdr (vertexOf b.verts 0) (vertexOf b.verts 1) (vertexOf b.verts 2)
        (makeTag 0 o skip shadow (polygonWord s.mode b.hdr.isp))
        (touchAll (blockAddresses s.mode s.vram (paramBase s + o * 4) skip two 3) s)) fun t =>
          if s.mode = .modifier then exec fold t else .next t) :=
  andThen_foldAfterBlock (fun _ ht => (rasterizeTriangle_mode ht).trans (touchAll_mode _ s)) hfold

/-- A primitive of four vertices is a quad (R257). -/
theorem arrayPrimitive_quad {s : State} {o : Nat} {fold : Instr}
    (hfold : decode .volumeMode (word32 s.vram (paramBase s + o * 4)) = .ok fold) (skip : Nat) (shadow : Bool) :
    arrayPrimitive 4 o skip shadow s =
      (let two := twoVolume s s.mode shadow
       let b := blockAt s.mode s.vram (paramBase s + o * 4) skip two 4
       andThen (rasterizeQuad b.hdr (vertexOf b.verts 0) (vertexOf b.verts 1) (vertexOf b.verts 2) (vertexOf b.verts 3)
        (makeTag 0 o skip shadow (polygonWord s.mode b.hdr.isp))
        (touchAll (blockAddresses s.mode s.vram (paramBase s + o * 4) skip two 4) s)) fun t =>
          if s.mode = .modifier then exec fold t else .next t) :=
  andThen_foldAfterBlock (fun _ ht => (rasterizeQuad_mode ht).trans (touchAll_mode _ s)) hfold

/-- Settles O30. -/
theorem arrayIsItsPrimitives : Obligations.ArrayIsItsPrimitives := by
  unfold Obligations.ArrayIsItsPrimitives
  intro s offs skip k shadow
  simp only [← twoVolumeEn_eq, ← twoVolume_mode, exec_tarray, exec_qarray]
  refine ⟨fun hm fold hfold => ⟨?_, ?_⟩, ?_, ?_⟩
  · rw [arrayEntry_zero hm, arrayPrimitive_triangle hfold]
    exact andThen_assoc _ _ _
  · rw [arrayEntry_zero hm, arrayPrimitive_quad hfold]
    exact andThen_assoc _ _ _
  · rw [arrayEntry_succ, nextBlock, headerWords, vstride]
  · rw [arrayEntry_succ, nextBlock, headerWords, vstride]

/-! ### Strips -/

/-- Triangle `i` of a strip, its tag of the mode the strip began in. -/
def stripPiece (b : Block) (m : RenderMode) (offs skip : Nat) (shadow : Bool) (mask i : Nat) (u : State) : Res :=
  if mask.testBit i then
    rasterizeTriangle b.hdr (vertexOf b.verts (i + i % 2)) (vertexOf b.verts (i + 1 - i % 2)) (vertexOf b.verts (i + 2))
      (makeTag i offs skip shadow (polygonWord m b.hdr.isp)) u
  else .next u

theorem stripPiece_mode {b : Block} {m : RenderMode} {offs skip mask i : Nat} {shadow : Bool} {s t : State}
    (h : stripPiece b m offs skip shadow mask i s = .next t) : t.mode = s.mode := by
  unfold stripPiece at h
  split at h
  · exact rasterizeTriangle_mode h
  · cases h
    rfl

theorem forEach_stripTriangle (b : Block) (offs skip : Nat) (shadow : Bool) (mask : Nat) (l : List Nat) {s : State}
    {m : RenderMode} (hs : s.mode = m) :
    forEach (stripTriangle b offs skip shadow mask) l s = forEach (stripPiece b m offs skip shadow mask) l s :=
  forEach_congr (fun u => u.mode = m) (fun i u hu => by rw [stripTriangle, stripPiece, hu])
    (fun _ _ _ hu h => (stripPiece_mode h).trans hu) l hs

theorem forEach_mode {α : Type} {f : α → State → Res} (hf : ∀ a s t, f a s = .next t → t.mode = s.mode) {l : List α}
    {s t : State} (h : forEach f l s = .next t) : t.mode = s.mode :=
  forEach_rel (fun s t => t.mode = s.mode) (fun _ => rfl) (fun _ _ _ h k => k.trans h) hf l h

theorem forEach_stripPiece_mode {b : Block} {m : RenderMode} {offs skip mask : Nat} {shadow : Bool} {l : List Nat}
    {s t : State} (h : forEach (stripPiece b m offs skip shadow mask) l s = .next t) : t.mode = s.mode :=
  forEach_mode (fun _ _ _ => stripPiece_mode) h

/-- A strip is its triangles, then the fold of its block (R250, R354). -/
theorem renderStrip_pieces {s : State} {offs : Nat} {fold : Instr}
    (hfold : decode .volumeMode (word32 s.vram (paramBase s + offs * 4)) = .ok fold) (skip : Nat) (shadow : Bool)
    (mask : Nat) :
    renderStrip offs skip shadow mask s =
      (let two := twoVolume s s.mode shadow
       let b := blockAt s.mode s.vram (paramBase s + offs * 4) skip two 8
       andThen (forEach (stripPiece b s.mode offs skip shadow mask) [0, 1, 2, 3, 4, 5]
        (touchAll (blockAddresses s.mode s.vram (paramBase s + offs * 4) skip two 8) s)) fun t =>
          if s.mode = .modifier then exec fold t else .next t) := by
  rw [renderStrip]
  dsimp only
  rw [forEach_stripTriangle _ _ _ _ _ _ (touchAll_mode _ s)]
  exact andThen_foldAfterBlock (fun t ht => (forEach_stripPiece_mode ht).trans (touchAll_mode _ s)) hfold

/-- Settles O31. -/
theorem stripTriangleChoice : Obligations.StripTriangleChoice := by
  unfold Obligations.StripTriangleChoice
  intro s offs skip mask shadow fold hm
  simp only [← twoVolume_mode]
  intro hfold
  rw [exec, execStrip, traversing_of_mode hm, renderStrip_pieces hfold]
  simp only [forEach_cons, forEach_nil, andThen_assoc, andThen_next]
  rfl

/-! ### Completion -/

/-- Moving the walk on is outside the frame of drawing. -/
theorem DrawFrame.nextEntry {s t : State} (h : DrawFrame s t) :
    DrawFrame { s with listPtr := s.listPtr + 4 } (nextEntry t) :=
  ⟨h.vram, h.regs, h.regionPtr, congrArg (· + 4) h.listPtr, h.mode, h.tilex, h.tiley, h.result, h.entry, h.entryCount,
    h.ptIteration, h.ctl, h.resume, h.ptrIndex, h.depthClearMode, h.errors⟩

/-- An array entry whose blocks are all ok completes (R255, R257, R606). -/
theorem arrayEntry_completes {n offs skip prims : Nat} {shadow : Bool} {s : State} (hm : s.mode ≠ .punchthroughMv)
    (hok : ∀ k, k ≤ prims → blockOk s.mode (arrayHeader s n offs skip shadow k)) :
    ∃ t, arrayEntry n offs skip shadow prims s = .next t ∧ DrawFrame { s with listPtr := s.listPtr + 4 } t := by
  obtain ⟨t, ht⟩ := renderArray_completes (o := offs) (count := prims + 1) hm fun k hk => hok k (by omega)
  refine ⟨nextEntry t, ?_, (renderArray_frame ht).nextEntry⟩
  rw [arrayEntry, traversing_of_mode hm, ht, andThen_next]

/-- Settles O28. -/
theorem listEntriesComplete : Obligations.ListEntriesComplete := by
  intro s offs skip shadow hm
  refine ⟨fun mask hok => ?_, fun prims => arrayEntry_completes hm, fun prims => arrayEntry_completes hm⟩
  obtain ⟨t, ht⟩ := renderStrip_completes (skip := skip) (mask := mask) hm hok
  refine ⟨nextEntry t, ?_, (renderStrip_frame ht).nextEntry⟩
  rw [exec, execStrip, traversing_of_mode hm, ht, andThen_next]

/-! ### Refusals -/

/-- A reserved VolumeMode refuses the fold (R354). -/
theorem foldAfterBlock_refused {isp : Word} {s : State} (hm : s.mode = .modifier) (h : 3 ≤ bits isp 31 29) :
    foldAfterBlock isp s = .refused (.volumeModeReserved (bits isp 31 29)) := by
  rw [foldAfterBlock, if_pos hm]
  generalize bits isp 31 29 = k at h
  obtain ⟨n, rfl⟩ := Nat.exists_eq_add_of_le' h
  rfl

/-- In MODIFIER mode drawing completes, whatever the block. -/
theorem rasterizeTriangle_modifier (hdr : Header) (v0 v1 v2 : Vertex) (tag : Word) :
    CompletesIn .modifier (rasterizeTriangle hdr v0 v1 v2 tag) :=
  rasterizeTriangle_completes (m := .modifier) nofun nofun v0 v1 v2 tag

theorem rasterizeQuad_modifier (hdr : Header) (v0 v1 v2 v3 : Vertex) (tag : Word) :
    CompletesIn .modifier (rasterizeQuad hdr v0 v1 v2 v3 tag) :=
  rasterizeQuad_completes (m := .modifier) nofun nofun v0 v1 v2 v3 tag

theorem stripTriangle_modifier (b : Block) (offs skip : Nat) (shadow : Bool) (mask i : Nat) :
    CompletesIn .modifier (stripTriangle b offs skip shadow mask i) := by
  intro s hs
  unfold stripTriangle
  split
  · exact rasterizeTriangle_modifier _ _ _ _ _ s hs
  · exact ⟨s, rfl, hs⟩

/-- A block that is drawn in MODIFIER mode and whose VolumeMode is reserved is refused after it. -/
theorem andThen_fold_refused {o : Res} {isp : Word} (ho : ∃ t, o = .next t ∧ t.mode = .modifier)
    (h : 3 ≤ bits isp 31 29) :
    andThen o (foldAfterBlock isp) = .refused (.volumeModeReserved (bits isp 31 29)) := by
  obtain ⟨t, rfl, ht⟩ := ho
  exact foldAfterBlock_refused ht h

/-- A strip whose modifier word has a reserved VolumeMode is refused after its triangles (R354, R606). -/
theorem renderStrip_refused {s : State} {offs : Nat} {shadow : Bool} (hm : s.mode = .modifier)
    (h : 3 ≤ bits (stripHeader s offs shadow).isp 31 29) (skip mask : Nat) :
    renderStrip offs skip shadow mask s = .refused (.volumeModeReserved (bits (stripHeader s offs shadow).isp 31 29)) :=
  andThen_fold_refused
    (forEach_completes (fun u => u.mode = .modifier) (fun i u hu => stripTriangle_modifier _ _ _ _ _ i u hu) _
      ((touchAll_mode _ s).trans hm)) h

theorem arrayHeader_zero (s : State) (n o skip : Nat) (shadow : Bool) :
    arrayHeader s n o skip shadow 0 = headerAt s.vram (paramBase s + o * 4) (twoVolume s s.mode shadow) := by
  rw [arrayHeader, Nat.zero_mul, Nat.add_zero]

/-- A primitive whose modifier word has a reserved VolumeMode is refused after it is drawn (R354, R606). -/
theorem arrayPrimitive_refused {s : State} {n o skip : Nat} {shadow : Bool} (hm : s.mode = .modifier)
    (h : 3 ≤ bits (arrayHeader s n o skip shadow 0).isp 31 29) :
    arrayPrimitive n o skip shadow s =
      .refused (.volumeModeReserved (bits (arrayHeader s n o skip shadow 0).isp 31 29)) := by
  rw [arrayHeader_zero] at h ⊢
  refine andThen_fold_refused ?_ h
  split
  · exact rasterizeTriangle_modifier _ _ _ _ _ _ ((touchAll_mode _ s).trans hm)
  · exact rasterizeQuad_modifier _ _ _ _ _ _ _ ((touchAll_mode _ s).trans hm)

/-- An array is refused at its first block with a reserved VolumeMode (R354, R606). -/
theorem renderArray_refused {n skip k : Nat} {shadow : Bool} : ∀ {count o : Nat} {s : State}, s.mode = .modifier →
    k < count → (∀ j, j < k → bits (arrayHeader s n o skip shadow j).isp 31 29 < 3) →
    3 ≤ bits (arrayHeader s n o skip shadow k).isp 31 29 →
    renderArray n skip shadow count o s =
      .refused (.volumeModeReserved (bits (arrayHeader s n o skip shadow k).isp 31 29)) := by
  induction k with
  | zero =>
    intro count o s hm hk _ h
    obtain ⟨count, rfl⟩ := Nat.exists_eq_add_of_le' (Nat.one_le_of_lt hk)
    rw [renderArray, arrayPrimitive_refused hm h, andThen_refused]
  | succ k ih =>
    intro count o s hm hk hbefore h
    obtain ⟨count, rfl⟩ := Nat.exists_eq_add_of_le' (Nat.one_le_of_lt hk)
    have hmv : s.mode ≠ .punchthroughMv := by rw [hm]; exact nofun
    have hpresort : s.mode ≠ .translucentPresort := by rw [hm]; exact nofun
    obtain ⟨u, hu⟩ := arrayPrimitive_completes (n := n) (o := o) (skip := skip) (shadow := shadow) hmv
      ⟨fun _ => hbefore 0 (Nat.succ_pos k), fun hp => absurd hp hpresort⟩
    have hframe := arrayPrimitive_frame hu
    have hheader : ∀ j, arrayHeader u n (nextBlock o skip (twoVolume s s.mode shadow) n) skip shadow j =
        arrayHeader s n o skip shadow (j + 1) := fun j => by
      rw [arrayHeader_frame hframe, arrayHeader_succ]
    rw [renderArray, hu, andThen_next,
      ih (hframe.mode.trans hm) (Nat.lt_of_succ_lt_succ hk)
        (fun j hj => by rw [hheader]; exact hbefore (j + 1) (Nat.succ_lt_succ hj)) (by rw [hheader]; exact h), hheader]

theorem arrayEntry_refused {n offs skip prims k : Nat} {shadow : Bool} {s : State} (hm : s.mode = .modifier)
    (hk : k ≤ prims) (hbefore : ∀ j, j < k → bits (arrayHeader s n offs skip shadow j).isp 31 29 < 3)
    (h : 3 ≤ bits (arrayHeader s n offs skip shadow k).isp 31 29) :
    arrayEntry n offs skip shadow prims s =
      .refused (.volumeModeReserved (bits (arrayHeader s n offs skip shadow k).isp 31 29)) := by
  rw [arrayEntry, traversing_of_mode (by rw [hm]; exact nofun),
    renderArray_refused hm (Nat.lt_succ_of_le hk) hbefore h, andThen_refused]

/-- One of the shader's two refusals (R415). -/
def ShaderRefuses (o : Res) : Prop := o = .refused .vqCompressed ∨ o = .refused .pixelFmtReserved

theorem ShaderRefuses.andThen {o : Res} (h : ShaderRefuses o) (f : State → Res) : ShaderRefuses (andThen o f) := by
  rcases h with rfl | rfl
  · exact .inl rfl
  · exact .inr rfl

/-- A textured set whose texture word is not ok is refused (R415). -/
theorem shadeSet_refused {p : DrawParameters} {second : Bool} (ht : bit p.hdr.isp 25 = true)
    (h : ¬ tcwOk (setTcw p.hdr second)) (s : State) : ShaderRefuses (shadeSet p second s) := by
  rw [shadeSet, if_pos ht]
  refine ShaderRefuses.andThen ?_ _
  rcases textureStage_cases (interpolateSet p second s) with ⟨-, hr⟩ | ⟨-, -, hr⟩ | ⟨hvq, hfmt, -⟩
  · exact .inl hr
  · exact .inr hr
  · rw [interpolateSet_tcw] at hvq hfmt
    exact absurd ⟨hvq, hfmt⟩ h

/-- A textured primitive with a set whose texture word is not ok is refused (R402, R415). -/
theorem shade_refused {p : DrawParameters} (ht : bit p.hdr.isp 25 = true)
    (h : ¬ tcwOk p.hdr.tcw ∨ (p.hdr.twoVolume = true ∧ ¬ tcwOk p.hdr.tcw2)) (i : Fin 1024) (s : State) :
    ShaderRefuses (shade p i s) := by
  rw [shade]
  rcases shades_shadeSet p false { s with pix := i } with ⟨t, hfirst, -⟩ | hr
  · rcases h with h | ⟨htwo, h⟩
    · have hr := shadeSet_refused (second := false) ht h { s with pix := i }
      exact hr.andThen _
    · rw [hfirst, andThen_next, if_pos htwo]
      exact (shadeSet_refused (second := true) ht h t).andThen _
  · exact ShaderRefuses.andThen hr _

/-- No list entry has a meaning in mode PUNCHTHROUGH_MV (R329, D15). -/
theorem exec_objectList_mv {i : Instr} {s : State} (hf : i.format = .objectList) (hm : s.mode = .punchthroughMv) :
    exec i s = .refused .punchthroughMvTraversal := by
  cases i
  case strip | tarray | qarray | reserved110 | link | linkEnd => exact if_pos hm
  all_goals exact absurd hf nofun

/-- Settles O29. -/
theorem refusedInputs : Obligations.RefusedInputs := by
  refine ⟨fun s => ⟨rfl, rfl, rfl, rfl, rfl, rfl, fun _ => rfl⟩, fun s offs skip mask shadow hm h => ?_,
    fun s offs skip prims k shadow hm hk hbefore h => arrayEntry_refused hm hk hbefore h,
    fun s offs skip prims k shadow hm hk hbefore h => arrayEntry_refused hm hk hbefore h,
    fun p i s ht h => shade_refused ht h i s, fun i s => exec_objectList_mv⟩
  rw [exec, execStrip, traversing_of_mode (by rw [hm]; exact nofun), renderStrip_refused hm h, andThen_refused]

end Sys2Proof.Machine
end

section
/-! PROOF. Parameter blocks and tags: where the words of headers and vertices lie (R142, R165, R167, R260, R261), what a
tag carries and gives back (R135, R136, R251, R401). -/

namespace Sys2Proof.Machine

/-! ### Vertices -/

theorem vertexOf_verticesAt (m : List Host.Cell) (base skip : Nat) (two : Bool) {n k : Nat} (isp : Word) (h : k < n) :
    vertexOf (verticesAt m base skip two n isp) k = vertexAt m isp two (base + 4 * (k * vstride skip two)) := by
  simp [vertexOf, verticesAt, h]

/-- The high half of a word in place is the word under a mask (R167). -/
theorem ofNat_bits_high (w : Word) : BitVec.ofNat 32 (bits w 31 16 * 2 ^ 16) = w &&& 0xFFFF0000 := by
  rw [and_mask_eq w 31 16 (mask := 0xFFFF0000) (by decide) (by decide) rfl, Nat.mul_comm]

/-- The low half of a word moved up is the word shifted (R167). -/
theorem ofNat_bits_low (w : Word) : BitVec.ofNat 32 (bits w 15 0 * 2 ^ 16) = w <<< 16 := by
  apply BitVec.eq_of_toNat_eq
  rw [BitVec.toNat_ofNat, BitVec.toNat_shiftLeft, Nat.shiftLeft_eq, bits]
  omega

theorem uAt_32 {isp : Word} (ht : bit isp 25 = true) (hu : bit isp 22 = false) (m : List Host.Cell) (p : Nat) :
    uAt m isp p = word32 m p ∧ vAt m isp p = word32 m (p + 4) := by
  rw [uAt, vAt, ht, hu]
  exact ⟨rfl, rfl⟩

theorem uAt_16 {isp : Word} (ht : bit isp 25 = true) (hu : bit isp 22 = true) (m : List Host.Cell) (p : Nat) :
    uAt m isp p = word32 m p &&& 0xFFFF0000 ∧ vAt m isp p = word32 m p <<< 16 := by
  rw [uAt, vAt, ht, hu, ← ofNat_bits_high, ← ofNat_bits_low]
  exact ⟨rfl, rfl⟩

theorem offsetAt_present {isp : Word} (h : bit isp 24 = true) (m : List Host.Cell) (p : Nat) :
    offsetAt m isp p = word32 m (p + 4 * uvWords isp + 4) := if_pos h

/-- Every address a block's reading touches (R260, R261). -/
theorem blockAddresses_eq (mode : RenderMode) (m : List Host.Cell) (block skip : Nat) (two : Bool) (n : Nat) :
    blockAddresses mode m block skip two n = (List.range (headerWords two)).map (fun k => block + 4 * k) ++
      (List.range n).flatMap fun k =>
        (List.range (vertexWords (polygonWord mode (word32 m block)) two)).map fun j =>
          block + 4 * (headerWords two + k * vstride skip two + j) := by
  rw [blockAddresses, wordAddresses, vertexAddresses]
  congr 1
  congr 1
  funext k
  rw [wordAddresses]
  congr 1
  funext j
  ring

/-- Settles O33. -/
theorem vertexLayout : Obligations.VertexLayout := by
  unfold Obligations.VertexLayout
  simp only [← bit_eq_getLsbD]
  refine ⟨fun mode m block skip n two => ?_, fun m isp two p => ?_⟩
  · refine ⟨rfl, rfl, rfl, ?_, fun k hk => ?_, blockAddresses_eq mode m block skip two n⟩
    · rintro rfl
      exact ⟨rfl, rfl⟩
    · refine (vertexOf_verticesAt _ _ _ _ _ hk).trans ?_
      rw [show block + 4 * headerWords two + 4 * (k * vstride skip two) =
        block + 4 * (headerWords two + k * vstride skip two) by ring]
      rfl
  · refine ⟨rfl, rfl, rfl, fun ht hu => uAt_32 ht hu m (p + 12), fun ht hu => uAt_16 ht hu m (p + 12), rfl,
      fun ho => ?_, ?_⟩
    · refine (offsetAt_present ho m (p + 12)).trans ?_
      rw [show p + 12 + 4 * uvWords isp + 4 = p + 16 + 4 * uvWords isp by ring]
      rfl
    · rintro rfl
      refine ⟨fun ht hu => uAt_32 ht hu m _, fun ht hu => uAt_16 ht hu m _, rfl, fun ho => ?_⟩
      exact (offsetAt_present ho m _).trans (congrArg (word32 m) (Nat.add_right_comm _ _ _))

/-! ### Tags -/

/-- The number a tag's word holds: its fields fit (R135, R136). -/
theorem toNat_makeTag {i skip : Nat} (hi : i < 8) (hs : skip < 8) (offs : Nat) (shadow : Bool) (isp : Word) :
    (makeTag i offs skip shadow isp).toNat =
      i + 2 ^ 3 * (offs % 2 ^ 21) + 2 ^ 24 * skip + 2 ^ 27 * shadow.toNat + 2 ^ 28 * (isp.getLsbD 21).toNat := by
  have hoffs := Nat.mod_lt offs (Nat.two_pow_pos 21)
  have hflag : ∀ (b : Bool) (k : Nat), flagAt b k = 2 ^ k * b.toNat := fun b k => by cases b <;> simp [flagAt]
  have h1 := shadow.toNat_lt
  have h2 := (isp.getLsbD 21).toNat_lt
  rw [makeTag, hflag, hflag, bit_eq_getLsbD, BitVec.toNat_ofNat, Nat.mod_eq_of_lt (by omega)]

/-- The fields of a tag (R135). -/
theorem makeTag_fields {i skip : Nat} (hi : i < 8) (hs : skip < 8) (offs : Nat) (shadow : Bool) (isp : Word) :
    tagOffset (makeTag i offs skip shadow isp) = i ∧
      tagParamOffs (makeTag i offs skip shadow isp) = offs % 2 ^ 21 ∧
      tagSkip (makeTag i offs skip shadow isp) = skip ∧ tagShadow (makeTag i offs skip shadow isp) = shadow ∧
      tagBypass (makeTag i offs skip shadow isp) = isp.getLsbD 21 ∧
      (makeTag i offs skip shadow isp).toNat < 2 ^ 29 := by
  have h := toNat_makeTag hi hs offs shadow isp
  have hoffs := Nat.mod_lt offs (Nat.two_pow_pos 21)
  have h1 := shadow.toNat_lt
  have h2 := (isp.getLsbD 21).toNat_lt
  have hbool : ∀ b : Bool, (b.toNat == 1) = b := fun b => by cases b <;> rfl
  unfold tagOffset tagParamOffs tagSkip tagShadow tagBypass bits bit
  rw [h]
  refine ⟨by omega, by omega, by omega, ?_, ?_, by omega⟩
  · refine Eq.trans (congrArg (· == 1) ?_) (hbool shadow)
    omega
  · refine Eq.trans (congrArg (· == 1) ?_) (hbool (isp.getLsbD 21))
    omega

/-! ### Direct decode -/

/-- The block a tag names, as the direct decode reads it (R251). -/
def tagBlock (t : Word) (s : State) : Block :=
  blockAt .opaqueMode s.vram (paramBase s + tagParamOffs t * 4) (tagSkip t) (tagShadow t && twoVolumeEn s) 8

/-- The state after the block of a tag was read (R95, R251). -/
def tagRead (t : Word) (s : State) : State :=
  touchAll (blockAddresses .opaqueMode s.vram (paramBase s + tagParamOffs t * 4) (tagSkip t)
    (tagShadow t && twoVolumeEn s) 8) s

theorem stripVertex_present (t : Word) (s : State) {k : Nat} (h : k < 8) (u : State) :
    stripVertex (tagBlock t s).verts k u = (vertexOf (tagBlock t s).verts k, u) := by
  simp [stripVertex, tagBlock, blockAt, verticesAt, vertexOf, h]

theorem stripVertex_absent (t : Word) (s : State) {k : Nat} (h : 8 ≤ k) (u : State) :
    stripVertex (tagBlock t s).verts k u = drawVertex u := by
  have hnone : (tagBlock t s).verts[k]? = none := by simp [tagBlock, blockAt, verticesAt, h]
  rw [stripVertex, hnone]

theorem directDecode_eq (t : Word) (s : State) :
    directDecode t s =
      (let i := tagOffset t
       let r0 := stripVertex (tagBlock t s).verts (i + i % 2) (tagRead t s)
       let r1 := stripVertex (tagBlock t s).verts (i + 1 - i % 2) r0.2
       let r2 := stripVertex (tagBlock t s).verts (i + 2) r1.2
       (⟨(tagBlock t s).hdr, r0.1, r1.1, r2.1, none, t⟩, r2.2)) := rfl

/-- A tag of a strip's triangle decodes to that triangle (R251). -/
theorem directDecode_of_le {t : Word} (h : tagOffset t ≤ 5) (s : State) :
    directDecode t s = (⟨(tagBlock t s).hdr, vertexOf (tagBlock t s).verts (tagOffset t + tagOffset t % 2),
      vertexOf (tagBlock t s).verts (tagOffset t + 1 - tagOffset t % 2),
      vertexOf (tagBlock t s).verts (tagOffset t + 2), none, t⟩, tagRead t s) := by
  rw [directDecode_eq]
  dsimp only
  rw [stripVertex_present t s (by omega), stripVertex_present t s (by omega), stripVertex_present t s (by omega)]

/-- What a direct decode leaves: the block is read, and a free vertex is drawn for each one beyond the eighth
(log 13). -/
theorem directDecode_state (t : Word) (s : State) :
    (directDecode t s).2 = { tagRead t s with freeDraws := (tagRead t s).freeDraws + (tagOffset t - 5) } := by
  have hlt : tagOffset t < 8 := bits_lt t 2 0
  obtain hle | h6 | h7 : tagOffset t ≤ 5 ∨ tagOffset t = 6 ∨ tagOffset t = 7 := by omega
  · rw [directDecode_of_le hle, Nat.sub_eq_zero_of_le hle]
    rfl
  · rw [directDecode_eq, h6]
    dsimp only
    rw [stripVertex_present t s (k := 6 + 6 % 2) (by decide), stripVertex_present t s (k := 6 + 1 - 6 % 2) (by decide),
      stripVertex_absent t s (k := 6 + 2) (by decide)]
    rfl
  · rw [directDecode_eq, h7]
    dsimp only
    rw [stripVertex_absent t s (k := 7 + 7 % 2) (by decide), stripVertex_present t s (k := 7 + 1 - 7 % 2) (by decide),
      stripVertex_absent t s (k := 7 + 2) (by decide)]
    rfl

/-- The block of the tag an entry makes, read from its eight vertices (R136, R251). -/
theorem tagBlock_makeTag {i offs skip : Nat} (hi : i < 8) (ho : offs < 2 ^ 21) (hs : skip < 8) (s : State)
    (shadow : Bool) (isp : Word) :
    tagBlock (makeTag i offs skip shadow isp) s =
      blockAt .opaqueMode s.vram (paramBase s + offs * 4) skip (shadow && twoVolumeEn s) 8 := by
  obtain ⟨-, hoffs, hskip, hshadow, -, -⟩ := makeTag_fields hi hs offs shadow isp
  rw [tagBlock, hoffs, hskip, hshadow, Nat.mod_eq_of_lt ho]

theorem blockAt_of_ne {m : RenderMode} (hm : m ≠ .modifier) (v : List Host.Cell) (block skip : Nat) (two : Bool)
    (n : Nat) : blockAt m v block skip two n = blockAt .opaqueMode v block skip two n := by
  rw [blockAt, blockAt, polygonWord_of_ne hm, polygonWord_of_ne (m := .opaqueMode) nofun]

/-- The vertices of a shorter block are the first of a longer (R261). -/
theorem vertexOf_blockAt (m : RenderMode) (v : List Host.Cell) (block skip : Nat) (two : Bool) {n k : Nat}
    (hk : k < n) (hn : k < 8) :
    vertexOf (blockAt m v block skip two n).verts k = vertexOf (blockAt m v block skip two 8).verts k :=
  (vertexOf_verticesAt _ _ _ _ _ hk).trans (vertexOf_verticesAt _ _ _ _ _ hn).symm

/-- The tag of a block's first primitive decodes to its first three vertices (R251, R255). -/
theorem directDecode_first {m : RenderMode} (hm : m ≠ .modifier) {offs skip n : Nat} (ho : offs < 2 ^ 21)
    (hs : skip < 8)
    (hn : 3 ≤ n) (s : State) (shadow : Bool) :
    let b := blockAt m s.vram (paramBase s + offs * 4) skip (shadow && twoVolumeEn s) n
    let t := makeTag 0 offs skip shadow b.hdr.isp
    (directDecode t s).1 = ⟨b.hdr, vertexOf b.verts 0, vertexOf b.verts 1, vertexOf b.verts 2, none, t⟩ := by
  intro b t
  obtain ⟨hoffset, -⟩ := makeTag_fields (i := 0) (by decide) hs offs shadow b.hdr.isp
  rw [directDecode_of_le (by rw [hoffset]; decide), hoffset, tagBlock_makeTag (by decide) ho hs]
  simp only [b, blockAt_of_ne hm]
  rw [vertexOf_blockAt _ _ _ _ _ (show 0 < n by omega) (by decide),
    vertexOf_blockAt _ _ _ _ _ (show 1 < n by omega) (by decide),
    vertexOf_blockAt _ _ _ _ _ (show 2 < n by omega) (by decide)]
  rfl

/-- A tag with a cache entry takes its parameters and changes nothing (R401). -/
theorem resolve_of_cached {t : Word} {s : State} {p : DrawParameters} (hb : bit t 28 = false)
    (hp : cacheLookup s t = some p) : resolve t s = (shadingParameters p, s) := by
  have hbypass : tagBypass t = false := hb
  rw [resolve, hbypass, if_neg Bool.false_ne_true, hp]

/-- A tag that bypasses the cache, or is not in it, is decoded (R401). -/
theorem resolve_of_not_cached {t : Word} {s : State} (h : bit t 28 = true ∨ cacheLookup s t = none) :
    resolve t s = directDecode t s := by
  rcases resolve_cases t s with ⟨p, hb, hp, -⟩ | ⟨-, hr⟩
  · rcases h with h | h
    · exact absurd (hb.symm.trans h) Bool.false_ne_true
    · rw [hp] at h
      cases h
  · exact hr

/-- Settles O32. -/
theorem tagsNameTheirTriangle : Obligations.TagsNameTheirTriangle := by
  refine ⟨fun i offs skip shadow isp hi hs => makeTag_fields hi hs offs shadow isp,
    fun s m i offs skip shadow hm hi ho hs => ?_,
    fun s m offs skip shadow hm ho hs => directDecode_first hm ho hs (by decide) s shadow,
    fun s m offs skip shadow hm ho hs => ?_, fun t s => ?_⟩
  · intro b t
    obtain ⟨hoffset, -⟩ := makeTag_fields (i := i) (by omega) hs offs shadow b.hdr.isp
    rw [directDecode_of_le (by rw [hoffset]; exact hi), hoffset, tagBlock_makeTag (by omega) ho hs]
    simp only [b, blockAt_of_ne hm]
  · intro b t hcache
    have hdirect := directDecode_first hm ho hs (by decide : 3 ≤ 4) s shadow
    refine ⟨?_, hdirect⟩
    rcases resolve_cases t s with ⟨p, -, hp, hr⟩ | ⟨-, hr⟩
    · rw [hr, hdirect]
      rw [hcache] at hp
      cases hp
      rfl
    · rw [hr]
  · have hblock : paramBase s + (t.extractLsb' 3 21).toNat * 4 = paramBase s + tagParamOffs t * 4 := by
      rw [tagParamOffs, bits_eq_extract]
    have hskip : (t.extractLsb' 24 3).toNat = tagSkip t := (bits_eq_extract t 26 24).symm
    have hoffset : (t.extractLsb' 0 3).toNat = tagOffset t := (bits_eq_extract t 2 0).symm
    simp only [← bit_eq_getLsbD, hblock, hskip, hoffset]
    refine ⟨fun p => resolve_of_cached, resolve_of_not_cached, fun h => congrArg Prod.fst (directDecode_of_le h s), rfl,
      rfl, rfl, ?_⟩
    rw [directDecode_state, tagRead, touchAll_eq]
    rfl

end Sys2Proof.Machine
end

section
/-! SUPPORT. Binary32 values: their order, and rounding to the nearest (R12, R13, R325). Values are counted in units of
`2^-149`; the units of a pattern grow with its magnitude bits. -/

namespace Sys2Proof.Machine

/-! ### Units -/

/-- The units of the magnitude bits `n`. It goes on beyond the finite patterns as if exponents had no end. -/
def magnitudeUnits (n : Nat) : Nat :=
  if n / 2 ^ 23 = 0 then n else (2 ^ 23 + n % 2 ^ 23) * 2 ^ (n / 2 ^ 23 - 1)

theorem bits_exponent (w : Word) : bits w 30 23 = bits w 30 0 / 2 ^ 23 := by
  unfold bits
  omega

theorem bits_mantissa (w : Word) : bits w 22 0 = bits w 30 0 % 2 ^ 23 := by
  unfold bits
  omega

theorem f32Units_eq (w : Word) : f32Units w = magnitudeUnits (bits w 30 0) := by
  rw [f32Units, magnitudeUnits, bits_exponent, bits_mantissa]
  split
  · omega
  · rfl

/-- A significand `t` with the exponent `j`: the carry into the next exponent is included. -/
theorem magnitudeUnits_add {t j : Nat} (ht : t ≤ 2 ^ 24) (h : j = 0 ∨ 2 ^ 23 ≤ t) :
    magnitudeUnits (t + j * 2 ^ 23) = t * 2 ^ j := by
  unfold magnitudeUnits
  obtain hlt | hmid | heq : t < 2 ^ 23 ∨ (2 ^ 23 ≤ t ∧ t < 2 ^ 24) ∨ t = 2 ^ 24 := by omega
  · obtain rfl : j = 0 := by omega
    rw [if_pos (by omega)]
    simp
  · have hexp : (t + j * 2 ^ 23) / 2 ^ 23 - 1 = j := by omega
    have hmant : (t + j * 2 ^ 23) % 2 ^ 23 = t - 2 ^ 23 := by omega
    rw [if_neg (by omega), hexp, hmant, Nat.add_sub_cancel' hmid.1]
  · have hexp : (t + j * 2 ^ 23) / 2 ^ 23 - 1 = j + 1 := by omega
    have hmant : (t + j * 2 ^ 23) % 2 ^ 23 = 0 := by omega
    calc _ = (2 ^ 23 + 0) * 2 ^ (j + 1) := by rw [if_neg (by omega), hexp, hmant]
      _ = 2 ^ 24 * 2 ^ j := by ring
      _ = t * 2 ^ j := by rw [heq]

theorem magnitudeUnits_lt_succ (n : Nat) : magnitudeUnits n < magnitudeUnits (n + 1) := by
  obtain hlt | hge : n < 2 ^ 23 ∨ 2 ^ 23 ≤ n := by omega
  · have h0 := magnitudeUnits_add (t := n) (j := 0) (by omega) (.inl rfl)
    have h1 := magnitudeUnits_add (t := n + 1) (j := 0) (by omega) (.inl rfl)
    simp only [Nat.zero_mul, Nat.add_zero, Nat.pow_zero, Nat.mul_one] at h0 h1
    rw [h0, h1]
    exact Nat.lt_succ_self n
  · obtain ⟨j, hj⟩ : ∃ j, j = n / 2 ^ 23 - 1 := ⟨_, rfl⟩
    have h0 := magnitudeUnits_add (t := n - j * 2 ^ 23) (j := j) (by omega) (.inr (by omega))
    have h1 := magnitudeUnits_add (t := n - j * 2 ^ 23 + 1) (j := j) (by omega) (.inr (by omega))
    rw [show n - j * 2 ^ 23 + j * 2 ^ 23 = n by omega] at h0
    rw [show n - j * 2 ^ 23 + 1 + j * 2 ^ 23 = n + 1 by omega] at h1
    rw [h0, h1, Nat.add_mul, Nat.one_mul]
    exact Nat.lt_add_of_pos_right (Nat.two_pow_pos j)

theorem magnitudeUnits_strictMono : StrictMono magnitudeUnits := strictMono_nat_of_lt_succ magnitudeUnits_lt_succ

theorem magnitudeUnits_zero : magnitudeUnits 0 = 0 := rfl

/-! ### The order of values -/

/-- The units of a key, with its sign. -/
def keyUnits (k : Int) : Int := if k < 0 then -(magnitudeUnits k.natAbs : Int) else (magnitudeUnits k.natAbs : Int)

theorem keyUnits_strictMono : StrictMono keyUnits := by
  intro a b hab
  have hmono := magnitudeUnits_strictMono
  unfold keyUnits
  by_cases ha : a < 0
  · rw [if_pos ha]
    have hpos : magnitudeUnits 0 < magnitudeUnits a.natAbs := hmono (by omega)
    by_cases hb : b < 0
    · rw [if_pos hb]
      have : magnitudeUnits b.natAbs < magnitudeUnits a.natAbs := hmono (by omega)
      omega
    · rw [if_neg hb]
      omega
  · rw [if_neg ha, if_neg (by omega)]
    have : magnitudeUnits a.natAbs < magnitudeUnits b.natAbs := hmono (by omega)
    omega

/-- A value is the units of its key (R12). -/
theorem f32Value_eq (w : Word) : f32Value w = (keyUnits (f32Key w) : ℚ) / 2 ^ 149 := by
  have hkey : (if bit w 31 then -(f32Units w : Int) else (f32Units w : Int)) = keyUnits (f32Key w) := by
    rw [f32Units_eq, keyUnits, f32Key]
    cases bit w 31 with
    | true =>
      rcases Nat.eq_zero_or_pos (bits w 30 0) with h | h
      · rw [h]
        rfl
      · simp [h]
    | false => simp
  rw [f32Value, hkey, Rat.mkRat_eq_div]
  push_cast
  rfl

theorem f32Value_lt_iff (a b : Word) : f32Value a < f32Value b ↔ f32Key a < f32Key b := by
  rw [f32Value_eq, f32Value_eq, div_lt_div_iff_of_pos_right (by positivity), Int.cast_lt,
    keyUnits_strictMono.lt_iff_lt]

theorem f32Value_inj_iff (a b : Word) : f32Value a = f32Value b ↔ f32Key a = f32Key b := by
  rw [f32Value_eq, f32Value_eq, div_left_inj' (by positivity), Int.cast_inj, keyUnits_strictMono.injective.eq_iff]

theorem f32Value_le_iff (a b : Word) : f32Value a ≤ f32Value b ↔ f32Key a ≤ f32Key b := by
  rw [← not_lt, ← not_lt, f32Value_lt_iff]

/-! ### Rounding a quotient to a natural number -/

/-- Where the nearest natural number lies, and that it is even of two equally near. -/
theorem roundHalfEven_cases (n d : Nat) :
    (roundHalfEven n d = n / d ∧ 2 * (n % d) ≤ d ∨ roundHalfEven n d = n / d + 1 ∧ d ≤ 2 * (n % d)) ∧
      (2 * (n % d) = d → roundHalfEven n d % 2 = 0) := by
  unfold roundHalfEven
  split
  · omega
  · split
    · omega
    · omega

/-- `2^k` as a quotient of natural powers. -/
theorem zpow_eq_toNat (k : Int) : (2 : ℚ) ^ k = 2 ^ k.toNat / 2 ^ (-k).toNat := by
  cases k with
  | ofNat n => simp
  | negSucc n => simp [zpow_negSucc, Int.neg_negSucc]

theorem pow2_eq (k : Int) : pow2 k = (2 : ℚ) ^ k := by
  rw [pow2, Rat.mkRat_eq_div, zpow_eq_toNat]
  push_cast
  rfl

/-- The two sides of a comparison with a power of two, as natural numbers. -/
theorem zpow_le_div_iff {n d : Nat} (hd : 0 < d) (k : Int) :
    (2 : ℚ) ^ k ≤ (n : ℚ) / d ↔ d * 2 ^ k.toNat ≤ n * 2 ^ (-k).toNat := by
  have hd' : (0 : ℚ) < d := by exact_mod_cast hd
  rw [zpow_eq_toNat, div_le_div_iff₀ (by positivity) hd']
  constructor
  · intro h
    have : d * 2 ^ k.toNat ≤ n * 2 ^ (-k).toNat := by
      rw [Nat.mul_comm]
      exact_mod_cast h
    exact this
  · intro h
    rw [mul_comm]
    exact_mod_cast h

/-- The exponent of a positive quotient (R12). -/
theorem floorLog2_spec {n d : Nat} (hn : 0 < n) (hd : 0 < d) :
    (2 : ℚ) ^ floorLog2 n d ≤ (n : ℚ) / d ∧ (n : ℚ) / d < 2 ^ (floorLog2 n d + 1) := by
  have hd' : (0 : ℚ) < d := by exact_mod_cast hd
  have hn1 : (2 : ℚ) ^ (n.log2 : Int) ≤ n := by exact_mod_cast Nat.log2_self_le hn.ne'
  have hn2 : (n : ℚ) < 2 ^ ((n.log2 : Int) + 1) := by exact_mod_cast (Nat.lt_log2_self : n < 2 ^ (n.log2 + 1))
  have hd1 : (2 : ℚ) ^ (d.log2 : Int) ≤ d := by exact_mod_cast Nat.log2_self_le hd.ne'
  have hd2 : (d : ℚ) < 2 ^ ((d.log2 : Int) + 1) := by exact_mod_cast (Nat.lt_log2_self : d < 2 ^ (d.log2 + 1))
  have hlow : (2 : ℚ) ^ ((n.log2 : Int) - d.log2 - 1) ≤ (n : ℚ) / d := by
    rw [le_div_iff₀ hd']
    calc (2 : ℚ) ^ ((n.log2 : Int) - d.log2 - 1) * d ≤ 2 ^ ((n.log2 : Int) - d.log2 - 1) * 2 ^ ((d.log2 : Int) + 1) :=
          mul_le_mul_of_nonneg_left hd2.le (by positivity)
      _ = 2 ^ (n.log2 : Int) := by rw [← zpow_add₀ (by norm_num)]; congr 1; ring
      _ ≤ n := hn1
  have hhigh : (n : ℚ) / d < 2 ^ ((n.log2 : Int) - d.log2 + 1) := by
    rw [div_lt_iff₀ hd']
    calc (n : ℚ) < 2 ^ ((n.log2 : Int) + 1) := hn2
      _ = 2 ^ ((n.log2 : Int) - d.log2 + 1) * 2 ^ (d.log2 : Int) := by
          rw [← zpow_add₀ (by norm_num)]; congr 1; ring
      _ ≤ 2 ^ ((n.log2 : Int) - d.log2 + 1) * d := mul_le_mul_of_nonneg_left hd1 (by positivity)
  unfold floorLog2
  dsimp only
  split
  · next h => exact ⟨(zpow_le_div_iff hd _).mpr h, hhigh⟩
  · next h =>
    refine ⟨hlow, ?_⟩
    rw [sub_add_cancel]
    exact not_le.mp fun hle => h ((zpow_le_div_iff hd _).mp hle)

/-! ### Rounding to the nearest value -/

/-- `r` are the magnitude bits nearest to the magnitude `x`, the even ones of two equally near. -/
def IsNearest (x : ℚ) (r : Nat) : Prop :=
  ∀ n, |(magnitudeUnits r : ℚ) - x| ≤ |(magnitudeUnits n : ℚ) - x| ∧
    (|(magnitudeUnits r : ℚ) - x| = |(magnitudeUnits n : ℚ) - x| → n ≠ r → r % 2 = 0)

theorem isNearest_zero : IsNearest 0 0 := by
  intro n
  rw [magnitudeUnits_zero]
  simp

/-- Between two neighbouring magnitudes: the nearer one is the nearest of all, the even one of two equally near. -/
theorem isNearest_of_between {x : ℚ} {f r : Nat} (hlow : (magnitudeUnits f : ℚ) ≤ x)
    (hhigh : x < magnitudeUnits (f + 1))
    (hr : r = f ∧ x - magnitudeUnits f ≤ magnitudeUnits (f + 1) - x ∨
      r = f + 1 ∧ magnitudeUnits (f + 1) - x ≤ x - magnitudeUnits f)
    (heven : x - magnitudeUnits f = magnitudeUnits (f + 1) - x → r % 2 = 0) : IsNearest x r := by
  intro n
  have hbelow : n < f → (magnitudeUnits n : ℚ) < magnitudeUnits f := fun h => by
    exact_mod_cast magnitudeUnits_strictMono h
  have habove : f + 1 < n → (magnitudeUnits (f + 1) : ℚ) < magnitudeUnits n := fun h => by
    exact_mod_cast magnitudeUnits_strictMono h
  have hdist : |(magnitudeUnits r : ℚ) - x| = min (x - magnitudeUnits f) (magnitudeUnits (f + 1) - x) := by
    rcases hr with ⟨rfl, h⟩ | ⟨rfl, h⟩
    · rw [min_eq_left h, abs_of_nonpos (by linarith)]
      ring
    · rw [min_eq_right h, abs_of_nonneg (by linarith)]
  rw [hdist]
  obtain hn | rfl | rfl | hn : n < f ∨ n = f ∨ n = f + 1 ∨ f + 1 < n := by omega
  · have hfar : min (x - magnitudeUnits f) (magnitudeUnits (f + 1) - x) < |(magnitudeUnits n : ℚ) - x| := by
      rw [abs_of_nonpos (by linarith [hbelow hn])]
      exact (min_le_left _ _).trans_lt (by linarith [hbelow hn])
    exact ⟨hfar.le, fun heq => absurd heq hfar.ne⟩
  · have hnear : |(magnitudeUnits n : ℚ) - x| = x - magnitudeUnits n := by
      rw [abs_of_nonpos (by linarith)]
      ring
    rw [hnear]
    refine ⟨min_le_left _ _, fun heq hne => heven ?_⟩
    rcases hr with ⟨rfl, -⟩ | ⟨rfl, h⟩
    · exact absurd rfl hne
    · rw [min_eq_right h] at heq
      exact heq.symm
  · have hnear : |(magnitudeUnits (f + 1) : ℚ) - x| = magnitudeUnits (f + 1) - x := abs_of_nonneg (by linarith)
    rw [hnear]
    refine ⟨min_le_right _ _, fun heq hne => heven ?_⟩
    rcases hr with ⟨rfl, h⟩ | ⟨rfl, -⟩
    · rw [min_eq_left h] at heq
      exact heq
    · exact absurd rfl hne
  · have hfar : min (x - magnitudeUnits f) (magnitudeUnits (f + 1) - x) < |(magnitudeUnits n : ℚ) - x| := by
      rw [abs_of_nonneg (by linarith [habove hn])]
      exact (min_le_right _ _).trans_lt (by linarith [habove hn])
    exact ⟨hfar.le, fun heq => absurd heq hfar.ne⟩

/-- The rounding before the overflow to an infinity (R12). -/
def nearestMagnitude (n d : Nat) : Nat :=
  let k := max (floorLog2 n d - 23) (-149)
  roundHalfEven (n * 2 ^ (-k).toNat) (d * 2 ^ k.toNat) + (k + 149).toNat * 2 ^ 23

theorem roundMagnitude_eq (n d : Nat) :
    roundMagnitude n d = if n = 0 then 0 else min (nearestMagnitude n d) 0x7F800000 := rfl

/-- A quotient rounded to a natural number, its place among the naturals in rationals. -/
theorem roundHalfEven_between (n : Nat) {d : Nat} (hd : 0 < d) :
    ((n / d : Nat) : ℚ) ≤ (n : ℚ) / d ∧ (n : ℚ) / d < (n / d : Nat) + 1 ∧
      (roundHalfEven n d = n / d ∧ (n : ℚ) / d - (n / d : Nat) ≤ (n / d : Nat) + 1 - (n : ℚ) / d ∨
        roundHalfEven n d = n / d + 1 ∧ (n / d : Nat) + 1 - (n : ℚ) / d ≤ (n : ℚ) / d - (n / d : Nat)) ∧
      ((n : ℚ) / d - (n / d : Nat) = (n / d : Nat) + 1 - (n : ℚ) / d → roundHalfEven n d % 2 = 0) := by
  have hd' : (0 : ℚ) < d := by exact_mod_cast hd
  have hsplit : (n : ℚ) / d = (n / d : Nat) + (n % d : Nat) / d := by
    rw [eq_comm, eq_div_iff hd'.ne', add_mul, div_mul_cancel₀ _ hd'.ne', mul_comm]
    exact_mod_cast Nat.div_add_mod n d
  have hpos : (0 : ℚ) ≤ (n % d : Nat) / d := by positivity
  have hlt : ((n % d : Nat) : ℚ) / d < 1 := by
    rw [div_lt_one hd']
    exact_mod_cast Nat.mod_lt n hd
  have hle : 2 * (n % d) ≤ d → ((n % d : Nat) : ℚ) / d ≤ 1 / 2 := fun h => by
    rw [div_le_div_iff₀ hd' (by norm_num)]
    have : ((2 * (n % d) : Nat) : ℚ) ≤ d := by exact_mod_cast h
    push_cast at this
    linarith
  have hge : d ≤ 2 * (n % d) → 1 / 2 ≤ ((n % d : Nat) : ℚ) / d := fun h => by
    rw [div_le_div_iff₀ (by norm_num) hd']
    have : (d : ℚ) ≤ ((2 * (n % d) : Nat) : ℚ) := by exact_mod_cast h
    push_cast at this
    linarith
  obtain ⟨hcases, heven⟩ := roundHalfEven_cases n d
  rw [hsplit]
  refine ⟨by linarith, by linarith, ?_, fun htie => heven ?_⟩
  · exact hcases.imp (fun ⟨h, hh⟩ => ⟨h, by linarith [hle hh]⟩) (fun ⟨h, hh⟩ => ⟨h, by linarith [hge hh]⟩)
  · have hhalf : ((n % d : Nat) : ℚ) / d = 1 / 2 := by linarith
    rw [div_eq_div_iff hd'.ne' (by norm_num)] at hhalf
    have : ((2 * (n % d) : Nat) : ℚ) = (d : Nat) := by
      push_cast
      linarith
    exact_mod_cast this

/-- The quotient in the unit `2^k`, as the model scales it. -/
theorem scaled_quotient (n d : Nat) (k : Int) :
    ((n * 2 ^ (-k).toNat : Nat) : ℚ) / (d * 2 ^ k.toNat : Nat) = (n : ℚ) / d / 2 ^ k := by
  rw [zpow_eq_toNat]
  push_cast
  rw [div_div_div_eq]

/-- The significand has 24 bits, and its highest bit is set unless the exponent is the least one. -/
theorem significand_bounds {n d N D : Nat} {k : Int} (hn : 0 < n) (hd : 0 < d)
    (hk : k = max (floorLog2 n d - 23) (-149)) (hquot : (N : ℚ) / D = (n : ℚ) / d / 2 ^ k) (hD : 0 < D) :
    N / D < 2 ^ 24 ∧ (k = -149 ∨ 2 ^ 23 ≤ N / D) := by
  obtain ⟨hlow, hhigh⟩ := floorLog2_spec hn hd
  obtain ⟨hf, hf1, -⟩ := roundHalfEven_between N hD
  have hk0 : (0 : ℚ) < 2 ^ k := by positivity
  constructor
  · have hlt : (N : ℚ) / D < 2 ^ (24 : Int) := by
      rw [hquot, div_lt_iff₀ hk0, ← zpow_add₀ (by norm_num)]
      exact hhigh.trans_le (zpow_le_zpow_right₀ (by norm_num) (by omega))
    exact_mod_cast hf.trans_lt hlt
  · refine or_iff_not_imp_left.mpr fun hne => ?_
    have hle : (2 : ℚ) ^ (23 : Int) ≤ (N : ℚ) / D := by
      rw [hquot, le_div_iff₀ hk0, ← zpow_add₀ (by norm_num)]
      exact (zpow_le_zpow_right₀ (by norm_num) (by omega)).trans hlow
    have : 2 ^ 23 < N / D + 1 := by exact_mod_cast hle.trans_lt hf1
    omega

/-- A significand rounded to a whole number gives the nearest magnitude bits of its exponent. -/
theorem isNearest_significand {N D j : Nat} (hD : 0 < D) (htop : N / D < 2 ^ 24) (hbottom : j = 0 ∨ 2 ^ 23 ≤ N / D) :
    IsNearest ((N : ℚ) / D * 2 ^ j) (roundHalfEven N D + j * 2 ^ 23) := by
  obtain ⟨hf, hf1, hround, heven⟩ := roundHalfEven_between N hD
  have hunits : (magnitudeUnits (N / D + j * 2 ^ 23) : ℚ) = (N / D : Nat) * 2 ^ j := by
    exact_mod_cast magnitudeUnits_add htop.le hbottom
  have hunits1 : (magnitudeUnits (N / D + j * 2 ^ 23 + 1) : ℚ) = ((N / D : Nat) + 1) * 2 ^ j := by
    rw [Nat.add_right_comm]
    exact_mod_cast magnitudeUnits_add (t := N / D + 1) htop (hbottom.imp_right Nat.le_succ_of_le)
  have hj0 : (0 : ℚ) < 2 ^ j := by positivity
  apply isNearest_of_between (f := N / D + j * 2 ^ 23)
  · rw [hunits]
    exact mul_le_mul_of_nonneg_right hf hj0.le
  · rw [hunits1]
    exact mul_lt_mul_of_pos_right hf1 hj0
  · rw [hunits, hunits1, ← sub_mul, ← sub_mul, mul_le_mul_iff_left₀ hj0, mul_le_mul_iff_left₀ hj0]
    exact hround.imp (fun ⟨h, hh⟩ => ⟨by rw [h], hh⟩) (fun ⟨h, hh⟩ => ⟨by rw [h, Nat.add_right_comm], hh⟩)
  · rw [hunits, hunits1, ← sub_mul, ← sub_mul, mul_left_inj' hj0.ne']
    intro htie
    have := heven htie
    omega

/-- The magnitude of a positive quotient is rounded to the nearest (R12). -/
theorem isNearest_nearestMagnitude {n d : Nat} (hn : 0 < n) (hd : 0 < d) :
    IsNearest ((n : ℚ) / d * 2 ^ 149) (nearestMagnitude n d) := by
  unfold nearestMagnitude
  dsimp only
  obtain ⟨k, hk⟩ : ∃ k, k = max (floorLog2 n d - 23) (-149) := ⟨_, rfl⟩
  rw [← hk]
  obtain ⟨j, hj⟩ : ∃ j : Nat, k = j - 149 := ⟨(k + 149).toNat, by omega⟩
  have hden : 0 < d * 2 ^ k.toNat := Nat.mul_pos hd (Nat.two_pow_pos _)
  have hscale := scaled_quotient n d k
  obtain ⟨htop, hbottom⟩ := significand_bounds hn hd hk hscale hden
  have hx : (n : ℚ) / d * 2 ^ 149 = ((n * 2 ^ (-k).toNat : Nat) : ℚ) / (d * 2 ^ k.toNat : Nat) * 2 ^ j := by
    have hpow : (2 : ℚ) ^ j = 2 ^ k * 2 ^ 149 := by
      rw [hj, zpow_sub₀ (by norm_num), zpow_natCast]
      norm_num
    rw [hscale, hpow, ← mul_assoc, div_mul_cancel₀ _ (by positivity)]
  rw [hx, show (k + 149).toNat = j by omega]
  exact isNearest_significand hden htop (hbottom.imp_left (by omega))

end Sys2Proof.Machine
end

section
/-! PROOF. `rne32` and the rounding obligation (R12, log 15). -/

namespace Sys2Proof.Machine

/-! ### A word as its magnitude and its sign -/

/-- The sign of a pattern as a factor. -/
def signOf (negative : Bool) : ℚ := if negative then -1 else 1

theorem abs_signOf (b : Bool) : |signOf b| = 1 := by
  cases b <;> simp [signOf]

theorem word_ext {a b : Word} (hm : bits a 30 0 = bits b 30 0) (hs : bit a 31 = bit b 31) : a = b := by
  have ha : a.toNat < 2 ^ 32 := a.isLt
  have hb : b.toNat < 2 ^ 32 := b.isLt
  unfold bits at hm
  simp only [bit, Bool.beq_eq_decide_eq, decide_eq_decide] at hs
  apply BitVec.eq_of_toNat_eq
  omega

theorem f32Finite_iff (w : Word) : f32Finite w = true ↔ bits w 30 0 < 0x7F800000 := by
  have := bits_lt w 30 0
  rw [f32Finite, bits_exponent, bne_iff_ne]
  omega

theorem f32Value_eq_signed (w : Word) :
    f32Value w = signOf (bit w 31) * ((magnitudeUnits (bits w 30 0) : ℚ) / 2 ^ 149) := by
  rw [f32Value, f32Units_eq, Rat.mkRat_eq_div]
  cases bit w 31 with
  | true => simp only [signOf, if_true]; push_cast; ring
  | false => simp only [signOf, Bool.false_eq_true, if_false]; push_cast; ring

theorem abs_f32Value (w : Word) : |f32Value w| = (magnitudeUnits (bits w 30 0) : ℚ) / 2 ^ 149 := by
  rw [f32Value_eq_signed, abs_mul, abs_signOf, one_mul, abs_of_nonneg (by positivity)]

theorem f32Value_neg_iff (w : Word) : f32Value w < 0 ↔ bit w 31 = true ∧ bits w 30 0 ≠ 0 := by
  have h0 : f32Value 0 = 0 := by rw [f32Value_eq_signed]; simp [signOf, magnitudeUnits, bits, bit]
  rw [← h0, f32Value_lt_iff, f32Key, f32Key]
  cases bit w 31 with
  | true => simp [bits, bit]; omega
  | false => simp [bits, bit]; omega

theorem eq_signOf_mul_abs (q : ℚ) : q = signOf (decide (q < 0)) * |q| := by
  rcases lt_or_ge q 0 with h | h
  · simp [signOf, h, abs_of_neg h]
  · simp [signOf, not_lt.mpr h, abs_of_nonneg h]

/-! ### What rounding gives -/

/-- The magnitude bits nearest to `q` before the overflow. -/
def nearestBits (q : ℚ) : Nat := if q.num.natAbs = 0 then 0 else nearestMagnitude q.num.natAbs q.den

theorem abs_eq_natAbs_div_den (q : ℚ) : |q| = (q.num.natAbs : ℚ) / q.den := by
  rw [Rat.abs_def, Rat.divInt_eq_div, Int.cast_natCast, Int.cast_natCast]

/-- The magnitude is rounded to the nearest (R12). -/
theorem isNearest_nearestBits (q : ℚ) : IsNearest (|q| * 2 ^ 149) (nearestBits q) := by
  rw [nearestBits, abs_eq_natAbs_div_den]
  split
  · next h =>
    rw [h, Nat.cast_zero, zero_div, zero_mul]
    exact isNearest_zero
  · next h => exact isNearest_nearestMagnitude (Nat.pos_of_ne_zero h) q.den_pos

/-- The magnitude bits of a rounded number: an infinity from the overflow on. -/
theorem bits_rne32 (q : ℚ) : bits (rne32 q) 30 0 = min (nearestBits q) 0x7F800000 := by
  have h : roundMagnitude q.num.natAbs q.den = min (nearestBits q) 0x7F800000 := by
    rw [roundMagnitude_eq, nearestBits]
    split <;> rfl
  have hle := min_le_right (nearestBits q) 0x7F800000
  rw [rne32, bits_ofNat _ (by decide), h]
  split <;> omega

/-- The sign of a rounded number is the sign of the number (log 15). -/
theorem bit_rne32 (q : ℚ) : bit (rne32 q) 31 = decide (q < 0) := by
  have h : roundMagnitude q.num.natAbs q.den ≤ 0x7F800000 := by
    rw [roundMagnitude_eq]
    split
    · omega
    · exact min_le_right _ _
  rw [rne32, bit_ofNat _ (by decide), Bool.eq_iff_iff, beq_iff_eq, decide_eq_true_iff, ← Rat.num_neg]
  split <;> omega

theorem nearestBits_eq_bits {q : ℚ} (h : f32Finite (rne32 q) = true) : nearestBits q = bits (rne32 q) 30 0 := by
  rw [f32Finite_iff, bits_rne32] at h
  rw [bits_rne32]
  omega

/-- The distance of a rounded number, in units. -/
theorem abs_rne32_sub {q : ℚ} (h : f32Finite (rne32 q) = true) :
    |f32Value (rne32 q) - q| = |(magnitudeUnits (nearestBits q) : ℚ) - |q| * 2 ^ 149| / 2 ^ 149 := by
  have hq := eq_signOf_mul_abs q
  have hr := f32Value_eq_signed (rne32 q)
  rw [bit_rne32, ← nearestBits_eq_bits h] at hr
  calc |f32Value (rne32 q) - q|
      = |signOf (decide (q < 0)) * (((magnitudeUnits (nearestBits q) : ℚ) - |q| * 2 ^ 149) / 2 ^ 149)| := by
        rw [sub_div, mul_div_cancel_right₀ _ (by norm_num), mul_sub, ← hr, ← hq]
    _ = _ := by rw [abs_mul, abs_signOf, one_mul, abs_div, abs_of_pos (by norm_num : (0 : ℚ) < 2 ^ 149)]

/-- No pattern is nearer than its magnitude is. -/
theorem units_sub_le_abs_sub (w : Word) (q : ℚ) :
    |(magnitudeUnits (bits w 30 0) : ℚ) - |q| * 2 ^ 149| / 2 ^ 149 ≤ |f32Value w - q| := by
  have h := abs_abs_sub_abs_le (f32Value w) q
  rw [abs_f32Value] at h
  refine le_trans (le_of_eq ?_) h
  have hpos : (0 : ℚ) < 2 ^ 149 := by norm_num
  rw [← abs_of_pos hpos, ← abs_div, abs_of_pos hpos, sub_div, mul_div_cancel_right₀ _ hpos.ne']

/-! ### The overflow -/

theorem magnitudeUnits_max : (magnitudeUnits 0x7F7FFFFF : ℚ) = (2 ^ 25 - 2) * 2 ^ 252 := by
  have h := magnitudeUnits_add (t := 2 ^ 24 - 1) (j := 253) (by norm_num) (.inr (by norm_num))
  rw [show 2 ^ 24 - 1 + 253 * 2 ^ 23 = 0x7F7FFFFF by norm_num] at h
  rw [h, pow_succ 2 252]
  push_cast
  ring

theorem magnitudeUnits_inf : (magnitudeUnits 0x7F800000 : ℚ) = 2 ^ 25 * 2 ^ 252 := by
  have h := magnitudeUnits_add (t := 2 ^ 24) (j := 253) (by norm_num) (.inr (by norm_num))
  rw [show 2 ^ 24 + 253 * 2 ^ 23 = 0x7F800000 by norm_num] at h
  rw [h, pow_succ 2 252]
  push_cast
  ring

/-- The nearest magnitude bits are finite exactly below the midpoint above the greatest finite value. -/
theorem IsNearest.lt_inf_iff {x : ℚ} {r : Nat} (h : IsNearest x r) :
    r < 0x7F800000 ↔ x < (2 ^ 25 - 1) * 2 ^ 252 := by
  have hmax := magnitudeUnits_max
  have hinf := magnitudeUnits_inf
  have hg : (0 : ℚ) < 2 ^ 252 := by positivity
  generalize (2 : ℚ) ^ 252 = g at hmax hinf hg ⊢
  constructor
  · intro hr
    by_contra hx
    rw [not_lt] at hx
    have hle : (magnitudeUnits r : ℚ) ≤ magnitudeUnits 0x7F7FFFFF := by
      exact_mod_cast magnitudeUnits_strictMono.monotone (by omega : r ≤ 0x7F7FFFFF)
    obtain ⟨hnear, heven⟩ := h 0x7F800000
    have hdist : |(magnitudeUnits r : ℚ) - x| = x - magnitudeUnits r := by
      rw [abs_of_nonpos (by linarith)]
      ring
    have hfar : |(magnitudeUnits 0x7F800000 : ℚ) - x| ≤ x - magnitudeUnits 0x7F7FFFFF :=
      abs_le.mpr ⟨by linarith, by linarith⟩
    rw [hdist] at hnear heven
    have heq : magnitudeUnits r = magnitudeUnits 0x7F7FFFFF := by
      have : (magnitudeUnits r : ℚ) = magnitudeUnits 0x7F7FFFFF := le_antisymm hle (by linarith)
      exact_mod_cast this
    rw [heq] at hnear heven
    have hodd := heven (le_antisymm hnear hfar) hr.ne'
    rw [magnitudeUnits_strictMono.injective heq] at hodd
    omega
  · intro hx
    by_contra hr
    have hge : (magnitudeUnits 0x7F800000 : ℚ) ≤ magnitudeUnits r := by
      exact_mod_cast magnitudeUnits_strictMono.monotone (by omega : 0x7F800000 ≤ r)
    have hnear := (h 0x7F7FFFFF).1
    have hdist : |(magnitudeUnits r : ℚ) - x| = magnitudeUnits r - x := abs_of_nonneg (by linarith)
    have hclose : |(magnitudeUnits 0x7F7FFFFF : ℚ) - x| < magnitudeUnits r - x :=
      abs_lt.mpr ⟨by linarith, by linarith⟩
    linarith

theorem f32Finite_rne32_iff (q : ℚ) : f32Finite (rne32 q) = true ↔ |q| < 2 ^ 128 - 2 ^ 103 := by
  have hmid : ((2 : ℚ) ^ 128 - 2 ^ 103) * 2 ^ 149 = (2 ^ 25 - 1) * 2 ^ 252 := by norm_num
  have hlt : min (nearestBits q) 0x7F800000 < 0x7F800000 ↔ nearestBits q < 0x7F800000 := by omega
  rw [f32Finite_iff, bits_rne32, hlt, (isNearest_nearestBits q).lt_inf_iff, ← hmid,
    mul_lt_mul_iff_left₀ (by norm_num)]

/-- From the midpoint on the rounded number is the infinity of the number's sign. -/
theorem bits_rne32_of_overflow {q : ℚ} (h : 2 ^ 128 - 2 ^ 103 ≤ |q|) : bits (rne32 q) 30 0 = 0x7F800000 := by
  have hfin : ¬ bits (rne32 q) 30 0 < 0x7F800000 := fun hlt =>
    not_lt.mpr h ((f32Finite_rne32_iff q).mp ((f32Finite_iff _).mpr hlt))
  rw [bits_rne32] at hfin ⊢
  omega

theorem rne32_of_overflow {q : ℚ} (h : 2 ^ 128 - 2 ^ 103 ≤ q) : rne32 q = 0x7F800000 ∧ rne32 (-q) = 0xFF800000 := by
  have hpos : 0 < q := lt_of_lt_of_le (by norm_num) h
  constructor
  · refine word_ext (bits_rne32_of_overflow (by rwa [abs_of_pos hpos])) ?_
    rw [bit_rne32, decide_eq_false (not_lt.mpr hpos.le)]
    rfl
  · refine word_ext (bits_rne32_of_overflow (by rwa [abs_neg, abs_of_pos hpos])) ?_
    rw [bit_rne32, decide_eq_true (neg_neg_iff_pos.mpr hpos)]
    rfl

/-! ### The nearest finite value -/

theorem abs_rne32_sub_le {q : ℚ} (h : f32Finite (rne32 q) = true) (w : Word) :
    |f32Value (rne32 q) - q| ≤ |f32Value w - q| := by
  rw [abs_rne32_sub h]
  exact ((div_le_div_iff_of_pos_right (by norm_num)).mpr ((isNearest_nearestBits q _).1)).trans
    (units_sub_le_abs_sub w q)

theorem even_of_tie {q : ℚ} (h : f32Finite (rne32 q) = true) {w : Word}
    (htie : |f32Value (rne32 q) - q| = |f32Value w - q|) (hne : f32Value w ≠ f32Value (rne32 q)) :
    (rne32 q).getLsbD 0 = false := by
  have hpos : (0 : ℚ) < 2 ^ 149 := by norm_num
  obtain ⟨hnear, heven⟩ := isNearest_nearestBits q (bits w 30 0)
  by_cases hsame : bits w 30 0 = nearestBits q
  · have habs : |f32Value w| = |f32Value (rne32 q)| := by
      rw [abs_f32Value, abs_f32Value, hsame, nearestBits_eq_bits h]
    have hneg : f32Value w = -f32Value (rne32 q) := (abs_eq_abs.mp habs).resolve_left hne
    have hv : f32Value (rne32 q) ≠ 0 := fun h0 => hne (by rw [hneg, h0, neg_zero])
    rw [hneg] at htie
    have hsq := (sq_eq_sq_iff_abs_eq_abs _ _).mpr htie
    have hq : q = 0 := (mul_eq_zero.mp (by linarith : f32Value (rne32 q) * q = 0)).resolve_left hv
    rw [hq]
    rfl
  · have hunits := units_sub_le_abs_sub w q
    rw [← htie, abs_rne32_sub h, div_le_div_iff_of_pos_right hpos] at hunits
    have hr := heven (le_antisymm hnear hunits) hsame
    rw [nearestBits_eq_bits h] at hr
    rw [← bit_eq_getLsbD, bit]
    unfold bits at hr
    rw [beq_eq_false_iff_ne]
    omega

/-- Every finite pattern but minus zero is its own rounding (log 15). -/
theorem rne32_f32Value {w : Word} (hfin : f32Finite w = true) (hw : w ≠ 0x80000000) : rne32 (f32Value w) = w := by
  have hx : |f32Value w| * 2 ^ 149 = magnitudeUnits (bits w 30 0) := by
    rw [abs_f32Value, div_mul_cancel₀ _ (by norm_num)]
  have hnear := (isNearest_nearestBits (f32Value w) (bits w 30 0)).1
  rw [hx, sub_self, abs_zero, abs_nonpos_iff, sub_eq_zero, Nat.cast_inj] at hnear
  have hbits := magnitudeUnits_strictMono.injective hnear
  have hlt := (f32Finite_iff w).mp hfin
  refine word_ext ?_ ?_
  · rw [bits_rne32, hbits]
    omega
  · rw [bit_rne32, Bool.eq_iff_iff, decide_eq_true_iff, f32Value_neg_iff]
    refine ⟨And.left, fun hbit => ⟨hbit, fun h0 => hw (word_ext h0 hbit)⟩⟩

/-- Settles O49, by the rounding of the magnitude: between two neighbouring magnitudes the nearer one is the nearest of
all, and the sign is the number's. -/
theorem roundingIsNearestEven : Obligations.RoundingIsNearestEven :=
  ⟨f32Finite_rne32_iff, fun _ h => rne32_of_overflow h,
    fun _ w hr _ => ⟨abs_rne32_sub_le hr w, fun htie hne => even_of_tie hr htie hne⟩, fun _ => rne32_f32Value⟩

end Sys2Proof.Machine
end

section
/-! PROOF. The DepthMode and CullMode codes, the fog coordinate, coverage and depth (R147, R148, R302 to R308, R446). -/

namespace Sys2Proof.Machine

/-! ### Comparisons of values -/

theorem f32Lt_eq_decide (a b : Word) :
    f32Lt a b = (!f32NaN a && !f32NaN b && decide (f32Value a < f32Value b)) := by
  simp only [f32Lt, f32Value_lt_iff]

theorem f32Eq_eq_decide (a b : Word) :
    f32Eq a b = (!f32NaN a && !f32NaN b && decide (f32Value a = f32Value b)) := by
  simp only [f32Eq, f32Value_inj_iff, Bool.beq_eq_decide_eq]

/-- The comparison of two numbers of which one is a NaN. -/
theorem f32Lt_of_nan {a b : Word} (h : f32NaN a = true ∨ f32NaN b = true) : f32Lt a b = false := by
  rcases h with h | h <;> simp [f32Lt, h]

theorem f32Eq_of_nan {a b : Word} (h : f32NaN a = true ∨ f32NaN b = true) : f32Eq a b = false := by
  rcases h with h | h <;> simp [f32Eq, h]

theorem f32Lt_of_ordered {a b : Word} (ha : f32NaN a = false) (hb : f32NaN b = false) :
    f32Lt a b = decide (f32Value a < f32Value b) := by
  simp [f32Lt_eq_decide, ha, hb]

theorem f32Eq_of_ordered {a b : Word} (ha : f32NaN a = false) (hb : f32NaN b = false) :
    f32Eq a b = decide (f32Value a = f32Value b) := by
  simp [f32Eq_eq_decide, ha, hb]

theorem ratAbs_eq_abs (q : ℚ) : ratAbs q = |q| := by
  unfold ratAbs
  split
  · next h => exact (abs_of_neg h).symm
  · next h => exact (abs_of_nonneg (not_lt.mp h)).symm

theorem areaBelow_eq (area2 : ℚ) (w : Word) :
    areaBelow area2 w = if f32Finite w then decide (|area2 / 2| < |f32Value w|) else !f32NaN w := by
  rw [areaBelow, ratAbs_eq_abs, ratAbs_eq_abs]

/-! ### The codes -/

/-- With a NaN only code 5 of the comparing codes passes. -/
theorem depthPasses_of_nan {z zb : Word} (h : f32NaN z = true ∨ f32NaN zb = true) :
    depthPasses 1 z zb = false ∧ depthPasses 2 z zb = false ∧ depthPasses 3 z zb = false ∧
      depthPasses 4 z zb = false ∧ depthPasses 5 z zb = true ∧ depthPasses 6 z zb = false := by
  simp [depthPasses, f32Lt_of_nan h, f32Lt_of_nan h.symm, f32Eq_of_nan h]

/-- Without a NaN the comparing codes compare the values. -/
theorem depthPasses_of_ordered {z zb : Word} (hz : f32NaN z = false) (hzb : f32NaN zb = false) :
    depthPasses 1 z zb = decide (f32Value z < f32Value zb) ∧ depthPasses 2 z zb = decide (f32Value z = f32Value zb) ∧
      depthPasses 3 z zb = decide (f32Value z ≤ f32Value zb) ∧ depthPasses 4 z zb = decide (f32Value zb < f32Value z) ∧
      depthPasses 5 z zb = decide (f32Value z ≠ f32Value zb) ∧
      depthPasses 6 z zb = decide (f32Value zb ≤ f32Value z) := by
  simp [depthPasses, f32Lt_of_ordered hz hzb, f32Lt_of_ordered hzb hz, f32Eq_of_ordered hz hzb, le_iff_lt_or_eq,
    eq_comm (a := f32Value zb)]

/-- A DepthMode code of known outcome. -/
theorem depth_outcome {s : State} {k : Nat} {b : Bool} (h : depthPasses k s.isp.zf (pixel s s.pix).depthTest = b) :
    (.next (evalDepth k s) : Res) = .next { s with isp := { s.isp with pass := b } } := by
  rw [← h]
  rfl

/-- A CullMode code of known outcome. -/
theorem cull_outcome {s : State} {k : Nat} {b : Bool} (h : culls k s.isp.area2 (reg s .fpuCullVal) = b) :
    (.next (evalCull k s) : Res) = .next { s with isp := { s.isp with culled := b } } := by
  rw [← h]
  rfl

/-- Settles O42, by the order of values as the order of keys. -/
theorem ispCodes : Obligations.IspCodes := by
  unfold Obligations.IspCodes
  intro s z zb passes culled area small
  have hsmall : areaBelow s.isp.area2 (reg s .fpuCullVal) = small := areaBelow_eq _ _
  refine ⟨rfl, rfl, fun h => ?_, fun hz hzb => ?_, rfl, cull_outcome hsmall,
    cull_outcome (congrArg (· || decide (s.isp.area2 < 0)) hsmall),
    cull_outcome (congrArg (· || decide (0 < s.isp.area2)) hsmall), fun w i h => ?_, fun w i h => ?_,
    fun a b => ⟨f32Lt_eq_decide a b, f32Eq_eq_decide a b⟩⟩
  · obtain ⟨h1, h2, h3, h4, h5, h6⟩ := depthPasses_of_nan h
    exact ⟨depth_outcome h1, depth_outcome h2, depth_outcome h3, depth_outcome h4, depth_outcome h5, depth_outcome h6⟩
  · obtain ⟨h1, h2, h3, h4, h5, h6⟩ := depthPasses_of_ordered hz hzb
    exact ⟨depth_outcome h1, depth_outcome h2, depth_outcome h3, depth_outcome h4, depth_outcome h5, depth_outcome h6⟩
  · obtain rfl : decodeDepth w = i := Except.ok.inj h
    have hbits : bits w 31 29 = (w.extractLsb' 29 3).toNat := bits_eq_extract w 31 29
    exact (exec_decodeDepth w s).trans (depth_outcome (hbits ▸ rfl))
  · obtain rfl : decodeCull w = i := Except.ok.inj h
    have hbits : bits w 28 27 = (w.extractLsb' 27 2).toNat := bits_eq_extract w 28 27
    exact (exec_decodeCull w s).trans (cull_outcome (hbits ▸ rfl))

/-! ### Rounding stays between finite values -/

/-- A finite pattern has no value at or beyond the midpoint above the greatest finite value. -/
theorem abs_f32Value_lt {w : Word} (h : f32Finite w = true) : |f32Value w| < 2 ^ 128 - 2 ^ 103 := by
  by_cases hw : w = 0x80000000
  · have hzero : |f32Value w| = 0 := by
      rw [abs_f32Value, hw]
      simp [bits, magnitudeUnits]
    rw [hzero]
    norm_num
  · exact (f32Finite_rne32_iff _).mp ((rne32_f32Value h hw).symm ▸ h)

/-- What lies between two finite values is rounded to a finite value between them. -/
theorem f32Value_rne32_between {q : ℚ} {a b : Word} (ha : f32Finite a = true) (hb : f32Finite b = true)
    (haq : f32Value a ≤ q) (hqb : q ≤ f32Value b) :
    f32Finite (rne32 q) = true ∧ f32Value a ≤ f32Value (rne32 q) ∧ f32Value (rne32 q) ≤ f32Value b := by
  have hfin : f32Finite (rne32 q) = true := by
    rw [f32Finite_rne32_iff, abs_lt]
    have hla := abs_lt.mp (abs_f32Value_lt ha)
    have hlb := abs_lt.mp (abs_f32Value_lt hb)
    exact ⟨hla.1.trans_le haq, hqb.trans_lt hlb.2⟩
  have hna := abs_rne32_sub_le hfin a
  have hnb := abs_rne32_sub_le hfin b
  rw [abs_of_nonpos (by linarith : f32Value a - q ≤ 0)] at hna
  rw [abs_of_nonneg (by linarith : 0 ≤ f32Value b - q)] at hnb
  exact ⟨hfin, by linarith [(abs_le.mp hna).1], by linarith [(abs_le.mp hnb).2]⟩

/-! ### The fog coordinate -/

theorem f32Value_one : f32Value 0x3F800000 = 1 := by
  have hbits : bits 0x3F800000 30 0 = 2 ^ 23 + 126 * 2 ^ 23 := by decide
  have hsign : bit 0x3F800000 31 = false := by decide
  rw [f32Value_eq_signed, hbits, hsign, magnitudeUnits_add (by norm_num) (.inr (le_refl _))]
  norm_num [signOf]

theorem rne32_one : rne32 1 = 0x3F800000 := by
  have h := rne32_f32Value (w := 0x3F800000) (by decide) (by decide)
  rwa [f32Value_one] at h

/-- The value a fog coordinate is clamped to lies above 1. -/
theorem one_le_fogLimit : 1 ≤ f32Value 0x437FFFFF := by
  rw [← f32Value_one, f32Value_le_iff]
  decide

/-- The density register as a mantissa and a signed exponent. -/
theorem fogDensity_eq (w : Word) :
    fogDensity w = ((w.extractLsb' 8 8).toNat : ℚ) / 128 * 2 ^ (w.extractLsb' 0 8).toInt := by
  have he : (if bits w 7 0 < 128 then (bits w 7 0 : Int) else (bits w 7 0 : Int) - 256) =
      (w.extractLsb' 0 8).toInt := by
    have hbits : bits w 7 0 = (w.extractLsb' 0 8).toNat := bits_eq_extract w 7 0
    rw [hbits, BitVec.toInt_eq_toNat_cond]
    split <;> split <;> omega
  rw [fogDensity, he, pow2_eq, bits_eq_extract, Rat.mkRat_eq_div]
  push_cast
  rfl

/-- The sign and the exponent of a pattern between 1 and the fog limit. -/
theorem fogCoordinate_bits {b : Word} (hlow : f32Value 0x3F800000 ≤ f32Value b)
    (hhigh : f32Value b ≤ f32Value 0x437FFFFF) : bit b 31 = false ∧ 127 ≤ bits b 30 23 ∧ bits b 30 23 ≤ 134 := by
  have hone : f32Key 0x3F800000 = 0x3F800000 := by decide
  have hlimit : f32Key 0x437FFFFF = 0x437FFFFF := by decide
  rw [f32Value_le_iff, hone, f32Key] at hlow
  rw [f32Value_le_iff, hlimit, f32Key] at hhigh
  rw [bits_exponent]
  cases hbit : bit b 31 with
  | true =>
    rw [hbit, if_pos rfl] at hlow
    omega
  | false =>
    rw [hbit, if_neg (by decide)] at hlow hhigh
    exact ⟨rfl, by omega, by omega⟩

/-- The interpolation between an entry's two values does not wrap. -/
theorem toNat_fogInterpolate (entry : Word) {bf : Nat} (h : bf ≤ 255) :
    (fogInterpolate entry bf).toNat = (bits entry 7 0 * bf + bits entry 15 8 * (255 - bf)) / 256 := by
  have hlow := bits_lt entry 7 0
  have hhigh := bits_lt entry 15 8
  have hsum : bits entry 7 0 * bf + bits entry 15 8 * (255 - bf) ≤ 255 * bf + 255 * (255 - bf) :=
    Nat.add_le_add (Nat.mul_le_mul_right _ (by omega)) (Nat.mul_le_mul_right _ (by omega))
  rw [fogInterpolate, BitVec.toNat_ofNat, Nat.mod_eq_of_lt (by omega)]
  rfl

/-- Settles O48, by the order of values: the coordinate lies between 1 and the limit, which bounds its bits. -/
theorem fogTableAlphaInRange : Obligations.FogTableAlphaInRange := by
  unfold Obligations.FogTableAlphaInRange
  intro s zf _ mant density b e entry bf
  have hb : b = rne32 (min (max (density * f32Value zf) 1) (f32Value 0x437FFFFF)) := by
    have hdensity : fogDensity (reg s .fogDensity) = density := fogDensity_eq _
    rw [← hdensity]
    rfl
  have hlow : 1 ≤ min (max (density * f32Value zf) 1) (f32Value 0x437FFFFF) :=
    le_min (le_max_right _ _) one_le_fogLimit
  have hrange := f32Value_rne32_between (a := 0x3F800000) (b := 0x437FFFFF) (by decide) (by decide)
    (f32Value_one.trans_le hlow) (min_le_right _ _)
  rw [← hb] at hrange
  obtain ⟨hsign, hexp1, hexp2⟩ := fogCoordinate_bits hrange.2.1 hrange.2.2
  have he : e = bits b 30 23 := (bits_eq_extract b 30 23).symm
  have hidx : fogIndex b = 16 * (e - 127) + (b.extractLsb' 19 4).toNat := by
    have hmant : bits b 22 19 = (b.extractLsb' 19 4).toNat := bits_eq_extract b 22 19
    rw [fogIndex, ← he, hmant]
    omega
  refine ⟨hb, ?_, by omega, by omega, hidx, ?_, fun hle => ?_⟩
  · rw [← bit_eq_getLsbD]
    exact hsign
  · have halpha : fogTableAlpha s zf = fogInterpolate entry bf := by
      show fogInterpolate (reg s (.fogTable (fogIndex b))) (bits b 18 11) = _
      rw [hidx, bits_eq_extract]
    rw [halpha, toNat_fogInterpolate entry (Nat.le_of_lt_succ (b.extractLsb' 11 8).isLt), bits_eq_extract,
      bits_eq_extract]
  · rw [hb, max_eq_right hle, min_eq_left one_le_fogLimit, rne32_one]

end Sys2Proof.Machine
end

section
/-! PROOF. Coverage and depth of a plane triangle (R302, R303, R307, R308). -/

namespace Sys2Proof.Machine

/-! ### The edge functions -/

/-- An edge function is zero along its edge. -/
theorem edge_on_line (xa ya xb yb r : ℚ) : edge xa ya xb yb (xa + r * (xb - xa)) (ya + r * (yb - ya)) = 0 := by
  unfold edge
  ring

/-- The edge functions add up to the doubled area (R303). -/
theorem Plane.edges_sum (t : Plane) (px py : ℚ) : t.e0 px py + t.e1 px py + t.e2 px py = t.area2 := by
  unfold Plane.e0 Plane.e1 Plane.e2 Plane.area2 edge
  ring

/-- An edge function at the vertex across is the doubled area. -/
theorem Plane.edge_at_vertex (t : Plane) :
    t.e0 t.x0 t.y0 = t.area2 ∧ t.e1 t.x1 t.y1 = t.area2 ∧ t.e2 t.x2 t.y2 = t.area2 := by
  unfold Plane.e0 Plane.e1 Plane.e2 Plane.area2 edge
  refine ⟨?_, ?_, ?_⟩ <;> ring

/-! ### Coverage -/

theorem Plane.covers_eq_false (t : Plane) (px py : ℚ) (h : t.area2 = 0) : t.covers px py = false := by
  simp [Plane.covers, h]

/-- A covered point is one of no negative weight, whichever way the vertices run (R307). -/
theorem Plane.covers_iff (t : Plane) (px py : ℚ) (h : t.area2 ≠ 0) :
    t.covers px py = true ↔
      0 ≤ (t.weights px py).l0 ∧ 0 ≤ (t.weights px py).l1 ∧ 0 ≤ (t.weights px py).l2 := by
  unfold Plane.covers Plane.weights
  rcases lt_or_gt_of_ne h with hneg | hpos
  · rw [if_neg (not_lt.mpr hneg.le), if_pos hneg]
    simp only [Bool.and_eq_true, decide_eq_true_iff, le_div_iff_of_neg hneg, zero_mul, and_assoc]
  · rw [if_pos hpos]
    simp only [Bool.and_eq_true, decide_eq_true_iff, le_div_iff₀ hpos, zero_mul, and_assoc]

theorem Plane.weights_sum (t : Plane) (px py : ℚ) (h : t.area2 ≠ 0) :
    (t.weights px py).l0 + (t.weights px py).l1 + (t.weights px py).l2 = 1 := by
  unfold Plane.weights
  rw [← add_div, ← add_div, t.edges_sum, div_self h]

/-! ### The depth -/

/-- A mean with weights that are not negative and add up to 1 lies between the least and the greatest number. -/
theorem mean_between {a b c x y z : ℚ} (ha : 0 ≤ a) (hb : 0 ≤ b) (hc : 0 ≤ c) (hsum : a + b + c = 1) :
    min x (min y z) ≤ a * x + b * y + c * z ∧ a * x + b * y + c * z ≤ max x (max y z) := by
  constructor
  · calc min x (min y z) = a * min x (min y z) + b * min x (min y z) + c * min x (min y z) := by
          rw [← add_mul, ← add_mul, hsum, one_mul]
      _ ≤ a * x + b * y + c * z := by
          gcongr
          · exact min_le_left _ _
          · exact (min_le_right _ _).trans (min_le_left _ _)
          · exact (min_le_right _ _).trans (min_le_right _ _)
  · calc a * x + b * y + c * z ≤ a * max x (max y z) + b * max x (max y z) + c * max x (max y z) := by
          gcongr
          · exact le_max_left _ _
          · exact (le_max_left _ _).trans (le_max_right _ _)
          · exact (le_max_right _ _).trans (le_max_right _ _)
      _ = max x (max y z) := by rw [← add_mul, ← add_mul, hsum, one_mul]

/-- The lesser of two finite values is a finite value. -/
theorem exists_f32Value_min {a b : Word} (ha : f32Finite a = true) (hb : f32Finite b = true) :
    ∃ w, f32Finite w = true ∧ f32Value w = min (f32Value a) (f32Value b) := by
  rcases min_choice (f32Value a) (f32Value b) with h | h
  · exact ⟨a, ha, h.symm⟩
  · exact ⟨b, hb, h.symm⟩

/-- The greater of two finite values is a finite value. -/
theorem exists_f32Value_max {a b : Word} (ha : f32Finite a = true) (hb : f32Finite b = true) :
    ∃ w, f32Finite w = true ∧ f32Value w = max (f32Value a) (f32Value b) := by
  rcases max_choice (f32Value a) (f32Value b) with h | h
  · exact ⟨a, ha, h.symm⟩
  · exact ⟨b, hb, h.symm⟩

/-- A number between the least and the greatest of three finite values is rounded to a finite value between them. -/
theorem rne32_between_three {a b c : Word} {q : ℚ} (ha : f32Finite a = true) (hb : f32Finite b = true)
    (hc : f32Finite c = true) (hlow : min (f32Value a) (min (f32Value b) (f32Value c)) ≤ q)
    (hhigh : q ≤ max (f32Value a) (max (f32Value b) (f32Value c))) :
    f32Finite (rne32 q) = true ∧ min (f32Value a) (min (f32Value b) (f32Value c)) ≤ f32Value (rne32 q) ∧
      f32Value (rne32 q) ≤ max (f32Value a) (max (f32Value b) (f32Value c)) := by
  obtain ⟨l', hl', hleq'⟩ := exists_f32Value_min hb hc
  obtain ⟨l, hl, hleq⟩ := exists_f32Value_min ha hl'
  obtain ⟨g', hg', hgeq'⟩ := exists_f32Value_max hb hc
  obtain ⟨g, hg, hgeq⟩ := exists_f32Value_max ha hg'
  rw [← hleq', ← hleq] at hlow ⊢
  rw [← hgeq', ← hgeq] at hhigh ⊢
  exact f32Value_rne32_between hl hg hlow hhigh

theorem vertexFinite_z {v : Vertex} (h : vertexFinite v = true) : f32Finite v.z = true := by
  simp only [vertexFinite, Bool.and_eq_true] at h
  exact h.2

/-- Settles O35, by the geometry of the edge functions and the monotony of rounding. -/
theorem coverageAndDepth : Obligations.CoverageAndDepth := by
  unfold Obligations.CoverageAndDepth
  intro v0 v1 v2 px py h0 h1 h2 t w x0 y0 x1 y1 x2 y2
  obtain ⟨hv0, hv1, hv2⟩ := t.edge_at_vertex
  refine ⟨rfl, rfl, rfl, rfl, t.edges_sum px py, hv0, hv1, hv2,
    fun r => ⟨edge_on_line _ _ _ _ r, edge_on_line _ _ _ _ r, edge_on_line _ _ _ _ r⟩,
    fun _ => ⟨rfl, rfl, rfl, rfl⟩, t.covers_eq_false px py, t.covers_iff px py, fun hcov => ?_⟩
  have harea : t.area2 ≠ 0 := fun hzero => by
    rw [t.covers_eq_false px py hzero] at hcov
    exact absurd hcov (by decide)
  obtain ⟨hl0, hl1, hl2⟩ := (t.covers_iff px py harea).mp hcov
  obtain ⟨hlow, hhigh⟩ := mean_between (x := f32Value v0.z) (y := f32Value v1.z) (z := f32Value v2.z)
    hl0 hl1 hl2 (t.weights_sum px py harea)
  exact rne32_between_three (vertexFinite_z h0) (vertexFinite_z h1) (vertexFinite_z h2) hlow hhigh

end Sys2Proof.Machine
end
